-- ==== Sys2Proof/Word.lean ====
section
/-!
DEFINITION. The widths of the block (00_scope.md R6): every quantity is an unsigned bit vector.
-/

namespace Sys2Proof

/-- A byte of a frame, a buffer or the pipe (00_scope.md R6). -/
abbrev Byte := BitVec 8

/-- A bus address (20_memory.md R42). -/
abbrev Nibble := BitVec 4

/-- A 16-bit register or the `imm16` field of a command word (30_encoding.md R71). -/
abbrev Half := BitVec 16

/-- A command word, and the value of a response (30_encoding.md R70). -/
abbrev Word := BitVec 32

end Sys2Proof
end

