-- ==== Sys2Proof/Syntax.lean ====
section
/-!
DEFINITION. The commands (30_encoding.md R73) and the registers they name (10_state.md R12). One constructor of `Instr`
for each row of spec/opcode_table.json, in the table's order.

The register number and the buffer index of a command stay bytes, as the command word holds them: a word that names no
register or an index out of range is a legal word, and its command ends with `IllegalOperand` (30_encoding.md R75).
-/

namespace Sys2Proof

/-- The twenty registers of 10_state.md R12. -/
inductive Reg where
  | laddr | plen | seqcnt | txdly | tmo | daddr | status | crc | elapsed
  | txfc | txseq | txsa | txda | txlen
  | rxfc | rxseq | rxsa | rxda | rxfcs
  | fblen
  deriving DecidableEq, Repr

/-- The eighteen commands (30_encoding.md R73). -/
inductive Instr where
  /-- `SYS.RESET` (43_system.md R130). -/
  | sysReset
  /-- `REG.RD r` (43_system.md R131). -/
  | regRd (num : Byte)
  /-- `REG.WR r, v` (43_system.md R132). -/
  | regWr (num : Byte) (v : Half)
  /-- `CRC.INIT` (40_crc.md R83). -/
  | crcInit
  /-- `CRC.UPD d` (40_crc.md R84). -/
  | crcUpd (d : Byte)
  /-- `CRC.FIN` (40_crc.md R85). -/
  | crcFin
  /-- `FRM.ENC` (41_frame_codec.md R93). -/
  | frmEnc
  /-- `FRM.DEC` (41_frame_codec.md R94). -/
  | frmDec
  /-- `FRM.ERRC fc` (41_frame_codec.md R95). -/
  | frmErrc (fc : Byte)
  /-- `TXP.WR i, b` (41_frame_codec.md R96). -/
  | txpWr (idx : Byte) (v : Half)
  /-- `RXP.RD i` (41_frame_codec.md R97). -/
  | rxpRd (idx : Byte)
  /-- `FB.WR i, b` (41_frame_codec.md R98). -/
  | fbWr (idx : Byte) (v : Half)
  /-- `FB.RD i` (41_frame_codec.md R99). -/
  | fbRd (idx : Byte)
  /-- `LNK.OPEN` (42_link.md R110). -/
  | lnkOpen
  /-- `LNK.CLOSE` (42_link.md R111). -/
  | lnkClose
  /-- `LNK.SEND` (42_link.md R112). -/
  | lnkSend
  /-- `LNK.POLL` (42_link.md R114). -/
  | lnkPoll
  /-- `LNK.SYNC` (42_link.md R115). -/
  | lnkSync
  deriving DecidableEq, Repr

end Sys2Proof
end

