-- ==== Sys2Proof/Decode.lean ====
section
/-!
DEFINITION. The command word (30_encoding.md R71, R73, R74): the decoder, total on every 32-bit word, and the encoder.
-/

namespace Sys2Proof

/-- Why a word is illegal (30_encoding.md R74). -/
inductive DecodeError where
  /-- `op` is none of the eighteen of R73. -/
  | unknownOpcode (op : Byte)
  /-- A field that must be zero in the format of `op` is not. -/
  | fieldNotZero (op : Byte)
  deriving DecidableEq, Repr

/-- `op`, bits 7:0 of a command word (30_encoding.md R71). -/
def opField (w : Word) : Byte := w.extractLsb' 0 8

/-- `a8`, bits 15:8 of a command word (30_encoding.md R71). -/
def a8Field (w : Word) : Byte := w.extractLsb' 8 8

/-- `imm16`, bits 31:16 of a command word (30_encoding.md R71). -/
def immField (w : Word) : Half := w.extractLsb' 16 16

/-- Format N: `a8` and `imm16` must be zero (30_encoding.md R71). -/
def formatN (w : Word) (i : Instr) : Except DecodeError Instr :=
  if a8Field w = 0 ∧ immField w = 0 then .ok i else .error (.fieldNotZero (opField w))

/-- Format A: `imm16` must be zero (30_encoding.md R71). -/
def formatA (w : Word) (i : Byte → Instr) : Except DecodeError Instr :=
  if immField w = 0 then .ok (i (a8Field w)) else .error (.fieldNotZero (opField w))

/-- Format AI: every `a8` and every `imm16` (30_encoding.md R71). -/
def formatAI (w : Word) (i : Byte → Half → Instr) : Except DecodeError Instr :=
  .ok (i (a8Field w) (immField w))

/-- The command a word stands for, or why it is illegal (30_encoding.md R73, R74). -/
def decode (w : Word) : Except DecodeError Instr :=
  match (opField w).toNat with
  | 0x01 => formatN w .sysReset
  | 0x02 => formatA w .regRd
  | 0x03 => formatAI w .regWr
  | 0x10 => formatN w .crcInit
  | 0x11 => formatA w .crcUpd
  | 0x12 => formatN w .crcFin
  | 0x20 => formatN w .frmEnc
  | 0x21 => formatN w .frmDec
  | 0x22 => formatA w .frmErrc
  | 0x23 => formatAI w .txpWr
  | 0x24 => formatA w .rxpRd
  | 0x25 => formatAI w .fbWr
  | 0x26 => formatA w .fbRd
  | 0x30 => formatN w .lnkOpen
  | 0x31 => formatN w .lnkClose
  | 0x32 => formatN w .lnkSend
  | 0x33 => formatN w .lnkPoll
  | 0x34 => formatN w .lnkSync
  | _ => .error (.unknownOpcode (opField w))

/-- The word with the given fields (30_encoding.md R71). -/
def packWord (imm : Half) (a8 op : Byte) : Word := imm ++ (a8 ++ op)

/-- The word of a command (30_encoding.md R73). -/
def encode : Instr → Word
  | .sysReset => packWord 0 0 0x01
  | .regRd num => packWord 0 num 0x02
  | .regWr num v => packWord v num 0x03
  | .crcInit => packWord 0 0 0x10
  | .crcUpd d => packWord 0 d 0x11
  | .crcFin => packWord 0 0 0x12
  | .frmEnc => packWord 0 0 0x20
  | .frmDec => packWord 0 0 0x21
  | .frmErrc fc => packWord 0 fc 0x22
  | .txpWr idx v => packWord v idx 0x23
  | .rxpRd idx => packWord 0 idx 0x24
  | .fbWr idx v => packWord v idx 0x25
  | .fbRd idx => packWord 0 idx 0x26
  | .lnkOpen => packWord 0 0 0x30
  | .lnkClose => packWord 0 0 0x31
  | .lnkSend => packWord 0 0 0x32
  | .lnkPoll => packWord 0 0 0x33
  | .lnkSync => packWord 0 0 0x34

/-- The word whose low `nbits` bits are those of `w` and whose other bits are 0. The command port takes one whole
32-bit word (30_encoding.md R70), so there are no bytes to lay out (assumption log 13). -/
def tableWord (nbits w : Nat) : Word := BitVec.ofNat 32 (w % 2 ^ nbits)

/-- The command that the decoder reads from the low `nbits` bits of `w`. -/
def decodeTableWord (nbits w : Nat) : Option Instr :=
  match decode (tableWord nbits w) with
  | .ok i => some i
  | .error _ => none

end Sys2Proof
end

