-- ==== Sys2Proof/Machine/Checksum.lean ====
section
/-!
DEFINITION. The checksum algorithm (40_crc.md R80, R81) and its constants (00_scope.md R5). 90_conflicts.md C1: the
written algorithm is followed, not the name "ARC".
-/

namespace Sys2Proof.Machine

/-- `CRC_INIT` (00_scope.md R5). -/
def crcSeed : Half := 0xFFFF

/-- `CRC_POLY_R` (00_scope.md R5). -/
def crcPoly : Half := 0xA001

/-- `CRC_XOROUT` (00_scope.md R5). -/
def crcXorOut : Half := 0xFFFF

/-- One of the eight rounds of `crc_step` (40_crc.md R80). -/
def crcRound (c : Half) : Half :=
  if c.getLsbD 0 then (c >>> 1) ^^^ crcPoly else c >>> 1

/-- `crc_step(c, d)` (40_crc.md R80). -/
def crcStep (c : Half) (d : Byte) : Half :=
  crcRound (crcRound (crcRound (crcRound
    (crcRound (crcRound (crcRound (crcRound (c ^^^ d.setWidth 16))))))))

/-- The register after the bytes of `s`, from `c` on. -/
def crcFrom (c : Half) (s : List Byte) : Half := s.foldl crcStep c

/-- `crc_acc(s)` (40_crc.md R81). -/
def crcAcc (s : List Byte) : Half := crcFrom crcSeed s

/-- `crc16(s)` (40_crc.md R81). -/
def crc16 (s : List Byte) : Half := crcAcc s ^^^ crcXorOut

end Sys2Proof.Machine
end

