-- ==== Sys2Proof/Config.lean ====
section
/-!
DEFINITION. The parameters of the block that the spec leaves to whoever models it (00_scope.md R5, kind OPEN), and the
sizes that the state's well-formedness speaks of. The machine's State carries `Params` as a constant, so that every
statement over all states is a statement over all parameter values (assumption log 8).
-/

namespace Sys2Proof.Config

/-- What `LNK.SYNC` asks of a reply (42_link.md R116): `any` is the spec's `REPLY_MATCH = NONE`, `seq` its `SEQ`. -/
inductive ReplyMatch where
  | any
  | seq
  deriving DecidableEq, Repr

/-- The OPEN parameters of 00_scope.md R5. -/
structure Params where
  /-- `REPLY_MATCH` (42_link.md R116). -/
  replyMatch : ReplyMatch
  /-- `RX_DEPTH` (20_memory.md R43): the capacity of `RXQ` in bytes, `none` for unbounded. -/
  rxDepth : Option Nat
  deriving DecidableEq, Repr

/-- The spec's defaults: `REPLY_MATCH = NONE`, `RX_DEPTH` unbounded (00_scope.md R5). -/
def Params.default : Params := { replyMatch := .any, rxDepth := none }

/-- The largest `PLEN` (10_state.md R14). -/
def maxPlen : Nat := 249

/-- The size of `TXPAY` and of `RXPAY` in bytes (10_state.md R25). -/
def payloadSize : Nat := 249

/-- The size of `FBUF` in bytes (10_state.md R25). -/
def frameBufferSize : Nat := 255

end Sys2Proof.Config
end

