-- ==== Sys2Proof/Machine/State.lean ====
section
/-!
DEFINITION. The state of the block, of the byte pipe and of the command port, with the inputs the machine will meet
(10_state.md; 20_memory.md R43; 30_encoding.md R70), the reasons a step can stop, and the machine right after reset.
-/

namespace Sys2Proof.Machine

/-- The bytes of one buffer, by index: a list of (index, byte) pairs, the indices rising, with no entry equal to what an
unlisted index reads as (Machine/Memory.lean). -/
abbrev Memory := List Host.Cell

/-- The result codes (60_exceptions.md R141). -/
inductive ResultCode where
  | ok
  | noFrame
  | lengthMismatch
  | fcsMismatch
  | payloadTooLong
  | linkIo
  | linkTimeout
  | illegalCommand
  | illegalOperand
  deriving DecidableEq, Repr

/-- What the block answers to a command word (30_encoding.md R72). -/
structure Response where
  rc : ResultCode
  val : Word
  deriving DecidableEq, Repr

/-- The controller phase (10_state.md R27). -/
inductive Phase where
  | idle
  | run
  | wait
  deriving DecidableEq, Repr

/-- On whose behalf the steps of a send or of a poll are carried out (30_encoding.md R77): for `LNK.SEND` or `LNK.POLL`
themselves, or inside `LNK.SYNC`. -/
inductive Caller where
  | own
  | sync
  deriving DecidableEq, Repr

/-- The pipe primitive a command in progress is about to call (42_link.md R110 to R115). -/
inductive Point where
  /-- `PipeOpen` of `LNK.OPEN`. -/
  | opening
  /-- `PipeClose` of `LNK.CLOSE`. -/
  | closing
  /-- `PipeWrite` of the whole frame (R113, `TXDLY` = 0). -/
  | write (c : Caller)
  /-- `PipeWrite` of frame byte `i` (R113, `TXDLY` not 0). -/
  | byteWrite (c : Caller) (i : Nat)
  /-- `PipeFlush` after frame byte `i` (R113). -/
  | byteFlush (c : Caller) (i : Nat)
  /-- The `PipeFlush` that ends a send (R112 step 5). -/
  | flush (c : Caller)
  /-- `PipeAvail` of a poll (R114 line 4). -/
  | avail (c : Caller)
  /-- `PipeRead` of a poll (R114 line 6). -/
  | read (c : Caller)
  deriving DecidableEq, Repr

/-- The wait a command in progress is inside. -/
inductive Pause where
  /-- `Wait(TXDLY)` after frame byte `i` (42_link.md R113). -/
  | byte (c : Caller) (i : Nat)
  /-- `Wait(10)` of `LNK.SYNC` (42_link.md R115 line 8). -/
  | poll
  deriving DecidableEq, Repr

/-- Where the block is (10_state.md R27). The position of a command in progress and its local variables exist only while
`PHASE` is not `IDLE`. -/
inductive Control where
  | idle
  | run (p : Point)
  | wait (w : Pause)
  deriving DecidableEq, Repr

/-- What the environment does at one interleaving point (20_memory.md R50, R52): its moves there, and whether the pipe
primitive called right after fails (R45). -/
structure EnvTurn where
  /-- The bytes it appends to the tail of `RXQ`. -/
  arrive : List Byte := []
  /-- How many bytes it moves from `TXBUF` to `WIRE` (all of them if there are fewer). -/
  drain : Nat := 0
  /-- The reset input is asserted here (70_reset_and_hazards.md R160). -/
  resetInput : Bool := false
  /-- The primitive called here fails. The number is how many bytes a failing `PipeWrite` appends (20_memory.md R45). -/
  fail : Option Nat := none
  deriving DecidableEq, Repr

/-- The environment the machine will meet: its turns in order, and what is known of it after them. -/
structure Env where
  turns : List EnvTurn
  /-- `false`: after `turns` the environment makes no further move. `true`: what it does after `turns` is not yet known,
  and a command that reaches an interleaving point then stays in progress there (assumption log 4). -/
  openEnded : Bool
  deriving DecidableEq, Repr

/-- The state (10_state.md, 20_memory.md R43). -/
structure State where
  /-- `LADDR` (R13). -/
  laddr : Nibble
  /-- `PLEN` (R14). -/
  plen : Byte
  /-- `SEQCNT` (R15). -/
  seqcnt : Byte
  /-- `TXDLY` (R16). -/
  txdly : Half
  /-- `TMO` (R17). -/
  tmo : Half
  /-- `DADDR` (R18). -/
  daddr : Nibble
  /-- `STATUS.OPEN`, and the pipe's `open` that it mirrors (R19, R28, 20_memory.md R43; assumption log 6). -/
  opened : Bool
  /-- `STATUS.RXV` (R19). -/
  rxv : Bool
  /-- `CRC` (R20). -/
  crc : Half
  /-- `ELAPSED` (R21). -/
  elapsed : BitVec 17
  /-- `TXFC` (R22). -/
  txfc : Byte
  /-- `TXSEQ` (R22). -/
  txseq : Byte
  /-- `TXSA` (R22). -/
  txsa : Nibble
  /-- `TXDA` (R22). -/
  txda : Nibble
  /-- `TXLEN` (R23). -/
  txlen : Byte
  /-- `RXFC` (R24). -/
  rxfc : Byte
  /-- `RXSEQ` (R24). -/
  rxseq : Byte
  /-- `RXSA` (R24). -/
  rxsa : Nibble
  /-- `RXDA` (R24). -/
  rxda : Nibble
  /-- `RXFCS` (R24). -/
  rxfcs : Half
  /-- `FBLEN` (R26). -/
  fblen : Byte
  /-- `TXPAY` (R23, R25). -/
  txpay : Memory
  /-- `RXPAY` (R24, R25). -/
  rxpay : Memory
  /-- `FBUF` (R25, R26). -/
  fbuf : Memory
  /-- `PHASE` and the position of the command in progress (R27). -/
  ctl : Control
  /-- `RXQ`, oldest byte first (20_memory.md R43). -/
  rxq : List Byte
  /-- `TXBUF`, oldest byte first (20_memory.md R43). -/
  txbuf : List Byte
  /-- `WIRE`, oldest byte first (20_memory.md R43). -/
  wire : List Byte
  /-- What the host will do at the command port, in order (30_encoding.md R70, R76): present a word, or present none for
  one step and leave that step to the environment (20_memory.md R52). -/
  script : List (Option Word)
  /-- The response on the command port, if there is one (30_encoding.md R72). -/
  response : Option Response
  /-- The environment the machine will meet (the model's own field; assumption log 3). -/
  env : Env
  /-- `REPLY_MATCH` and `RX_DEPTH` (00_scope.md R5). -/
  params : Config.Params
  deriving DecidableEq, Repr

/-- Why the machine stops. The block's own failures are responses (60_exceptions.md R140) and stop nothing. -/
inductive Fault where
  /-- Raised by `PipeRead` when `RXQ` holds fewer bytes than asked for. Safe: 20_memory.md R44 says the requirement of
  `PipeRead` always holds, and no state that the block reaches raises it (assumption log 12). -/
  | shortRead
  deriving DecidableEq, Repr

/-- Why the model does not define a step. -/
inductive Refusal where
  /-- Raised by an arm of `exec` whose command has no meaning yet. Safe. -/
  | notModelled (mnemonic : String)
  /-- Raised when bytes arrive beyond a finite `RX_DEPTH`: the spec defines no overflow and asks a model to refuse such a
  run (93_implementation_defined.md U11; assumption log 9). Safe; never raised with the default, unbounded `RX_DEPTH`. -/
  | rxOverflow
  deriving DecidableEq, Repr

/-- What a step or a command answers. -/
abbrev Result := Host.Outcome State Fault Refusal

/-- The machine right after reset (10_state.md R30). `RXQ` and `WIRE` are empty, no word is presented, and the
environment is quiet: assumption log 1, 2, 3 and 5. -/
def State.reset : State where
  laddr := 0
  plen := 8
  seqcnt := 0
  txdly := 0
  tmo := 0
  daddr := 0
  opened := false
  rxv := false
  crc := 0xFFFF
  elapsed := 0
  txfc := 0
  txseq := 0
  txsa := 0
  txda := 0
  txlen := 0
  rxfc := 0
  rxseq := 0
  rxsa := 0
  rxda := 0
  rxfcs := 0
  fblen := 0
  txpay := []
  rxpay := []
  fbuf := []
  ctl := .idle
  rxq := []
  txbuf := []
  wire := []
  script := []
  response := none
  env := { turns := [], openEnded := false }
  params := Config.Params.default

end Sys2Proof.Machine
end

