-- ==== Sys2Proof/Machine/Codec.lean ====
section
/-!
DEFINITION. The frame (30_encoding.md R60 to R66) and the two conversions `enc` and `dec` as functions of bytes
(41_frame_codec.md R90 to R92).
-/

namespace Sys2Proof.Machine

/-- `HDR_LEN` (00_scope.md R5). -/
def headerLen : Nat := 4

/-- `FCS_LEN` (00_scope.md R5). -/
def fcsLen : Nat := 2

/-- `PAD_BYTE` (00_scope.md R5). -/
def padByte : Byte := 0x00

/-- The reserved header byte, as it is sent (30_encoding.md R66). -/
def reservedByte : Byte := 0x00

/-- `FLEN` for a payload length (30_encoding.md R60). -/
def frameLen (plen : Nat) : Nat := headerLen + plen + fcsLen

/-- A frame, without its checksum (41_frame_codec.md R90). -/
structure Frame where
  fc : Byte
  seq : Byte
  sa : Nibble
  da : Nibble
  payload : List Byte
  deriving DecidableEq, Repr

/-- Header byte 2: `sa` in the low nibble, `da` in the high (30_encoding.md R61). -/
def addressByte (sa da : Nibble) : Byte := sa.setWidth 8 ||| (da.setWidth 8 <<< 4)

/-- The four header bytes (30_encoding.md R61). -/
def headerBytes (fc seq : Byte) (sa da : Nibble) : List Byte :=
  [fc, seq, addressByte sa da, reservedByte]

/-- The payload supplied, filled with pad bytes up to `plen` (41_frame_codec.md R91). -/
def padPayload (p : List Byte) (plen : Nat) : List Byte :=
  p ++ List.replicate (plen - p.length) padByte

/-- The two checksum bytes, low byte first (20_memory.md R54). -/
def fcsBytes (c : Half) : List Byte := [c.extractLsb' 0 8, c.extractLsb' 8 8]

/-- A body with its checksum appended (30_encoding.md R65). -/
def withFcs (body : List Byte) : List Byte := body ++ fcsBytes (crc16 body)

/-- Header and padded payload: all the bytes before the checksum. -/
def frameBody (fc seq : Byte) (sa da : Nibble) (p : List Byte) (plen : Nat) : List Byte :=
  headerBytes fc seq sa da ++ padPayload p plen

/-- `enc` (41_frame_codec.md R91): `none` is the failure `PayloadTooLong`. 90_conflicts.md C2: nothing is truncated. -/
def enc (fc seq : Byte) (sa da : Nibble) (p : List Byte) (plen : Nat) : Option (List Byte) :=
  if p.length > plen then none else some (withFcs (frameBody fc seq sa da p plen))

/-- Byte `i` of a byte sequence. -/
def byteAt (b : List Byte) (i : Nat) : Byte := b.getD i 0

/-- The bytes of a frame that its checksum covers (30_encoding.md R62). -/
def coveredBytes (b : List Byte) (plen : Nat) : List Byte := b.take (headerLen + plen)

/-- The checksum as transmitted, low byte first (30_encoding.md R62). -/
def sentFcs (b : List Byte) (plen : Nat) : Half :=
  (byteAt b (plen + 4)).setWidth 16 ||| ((byteAt b (plen + 5)).setWidth 16 <<< 8)

/-- The source address of a frame (30_encoding.md R62). -/
def sourceOf (b : List Byte) : Nibble := (byteAt b 2).extractLsb' 0 4

/-- The destination address of a frame (30_encoding.md R62). -/
def destOf (b : List Byte) : Nibble := (byteAt b 2).extractLsb' 4 4

/-- The payload bytes of a frame (30_encoding.md R62). -/
def payloadOf (b : List Byte) (plen : Nat) : List Byte := (b.drop headerLen).take plen

/-- The fields of a frame (30_encoding.md R62); byte 3 is not unpacked (R66). -/
def unpackFrame (b : List Byte) (plen : Nat) : Frame where
  fc := byteAt b 0
  seq := byteAt b 1
  sa := sourceOf b
  da := destOf b
  payload := payloadOf b plen

/-- The recomputed checksum equals the transmitted one (41_frame_codec.md R92). -/
def fcsMatches (b : List Byte) (plen : Nat) : Bool :=
  crc16 (coveredBytes b plen) == sentFcs b plen

/-- `dec` (41_frame_codec.md R92): the frame with its transmitted checksum, or the failure. -/
def dec (b : List Byte) (plen : Nat) : Except ResultCode (Frame × Half) :=
  if b.length ≠ frameLen plen then .error .lengthMismatch
  else if fcsMatches b plen then .ok (unpackFrame b plen, sentFcs b plen)
  else .error .fcsMismatch

/-- `errcode` (30_encoding.md R64). -/
def errorCode (fc : Byte) : Byte := (fc &&& 0xC0) >>> 6

/-- REQ_ACK, bit 1 of the frame-control byte (30_encoding.md R63). -/
def reqAck (fc : Byte) : Bool := fc.getLsbD 1

end Sys2Proof.Machine
end

