-- ==== Sys2Proof/Machine/Flags.lean ====
section
/-!
DEFINITION. The two flags of the block and the status word they make (10_state.md R19), and the controller phase (R27).
-/

namespace Sys2Proof.Machine

/-- `STATUS`: bit 0 `OPEN`, bit 1 `RXV`, bits 15:2 zero (10_state.md R19). -/
def statusWord (s : State) : Half :=
  (BitVec.ofBool s.opened).setWidth 16 ||| ((BitVec.ofBool s.rxv).setWidth 16 <<< 1)

/-- `PHASE` (10_state.md R27). -/
def phaseOf (s : State) : Phase :=
  match s.ctl with
  | .idle => .idle
  | .run _ => .run
  | .wait _ => .wait

end Sys2Proof.Machine
end

