-- ==== Sys2Proof/Machine/Memory.lean ====
section
/-!
DEFINITION. The three byte buffers (10_state.md R25): reading and writing single bytes and runs of bytes, and the
canonical form of a buffer.
-/

namespace Sys2Proof.Machine

/-- What an index that is not listed reads as: every buffer byte is 0x00 after reset (10_state.md R30). -/
def unlistedByte : Byte := 0x00

/-- The byte at index `a`. -/
def Memory.read : Memory → Nat → Byte
  | [], _ => unlistedByte
  | (k, v) :: m, a => if k = a then v else Memory.read m a

/-- The pair for index `a` and byte `b`, or no pair when `b` is what an unlisted index reads as. -/
def Memory.cell (a : Nat) (b : Byte) : Memory :=
  if b = unlistedByte then [] else [(a, b)]

/-- The buffer with byte `b` at index `a`. -/
def Memory.write : Memory → Nat → Byte → Memory
  | [], a, b => Memory.cell a b
  | (k, v) :: m, a, b =>
    if a < k then Memory.cell a b ++ (k, v) :: m
    else if a = k then Memory.cell a b ++ m
    else (k, v) :: Memory.write m a b

/-- The buffer with `bs` at indices `a`, `a + 1`, …. -/
def Memory.writeAll : Memory → Nat → List Byte → Memory
  | m, _, [] => m
  | m, a, b :: bs => Memory.writeAll (Memory.write m a b) (a + 1) bs

/-- The `n` bytes from index `a` on. -/
def Memory.readAll (m : Memory) : Nat → Nat → List Byte
  | _, 0 => []
  | a, n + 1 => Memory.read m a :: Memory.readAll m (a + 1) n

/-- The indices are rising, all at least `lo`, and no listed byte is what an unlisted index reads as. -/
def Memory.rising : Nat → Memory → Bool
  | _, [] => true
  | lo, (k, v) :: m => decide (lo ≤ k) && (v != unlistedByte) && Memory.rising (k + 1) m

/-- Every listed index is below `size`. -/
def Memory.below (size : Nat) : Memory → Bool
  | [] => true
  | (k, _) :: m => decide (k < size) && Memory.below size m

/-- The canonical form of a buffer of `size` bytes. -/
def Memory.wf (size : Nat) (m : Memory) : Bool :=
  Memory.rising 0 m && Memory.below size m

end Sys2Proof.Machine
end

