-- ==== Sys2Proof/Machine/Registers.lean ====
section
/-!
DEFINITION. The register numbers and access rights of 10_state.md R12.
-/

namespace Sys2Proof.Machine

/-- The number of a register (10_state.md R12, first column). -/
def regNumber : Reg → Byte
  | .laddr => 0x00
  | .plen => 0x01
  | .seqcnt => 0x02
  | .txdly => 0x03
  | .tmo => 0x04
  | .daddr => 0x05
  | .status => 0x06
  | .crc => 0x07
  | .elapsed => 0x08
  | .txfc => 0x10
  | .txseq => 0x11
  | .txsa => 0x12
  | .txda => 0x13
  | .txlen => 0x14
  | .rxfc => 0x20
  | .rxseq => 0x21
  | .rxsa => 0x22
  | .rxda => 0x23
  | .rxfcs => 0x24
  | .fblen => 0x30

/-- Every register, in the order of 10_state.md R12. -/
def allRegs : List Reg :=
  [.laddr, .plen, .seqcnt, .txdly, .tmo, .daddr, .status, .crc, .elapsed,
   .txfc, .txseq, .txsa, .txda, .txlen, .rxfc, .rxseq, .rxsa, .rxda, .rxfcs, .fblen]

/-- The register a number names, or none (10_state.md R10). -/
def regOf (num : Byte) : Option Reg :=
  allRegs.find? fun r => regNumber r == num

/-- The width of a register in bits (10_state.md R12, third column). -/
def regWidth : Reg → Nat
  | .laddr | .daddr | .txsa | .txda | .rxsa | .rxda => 4
  | .plen | .seqcnt | .txfc | .txseq | .txlen | .rxfc | .rxseq | .fblen => 8
  | .txdly | .tmo | .status | .crc | .rxfcs => 16
  | .elapsed => 17

/-- The registers the host may only read (43_system.md R132). -/
def regReadOnly : Reg → Bool
  | .status | .elapsed | .rxfc | .rxseq | .rxsa | .rxda | .rxfcs => true
  | .laddr | .plen | .seqcnt | .txdly | .tmo | .daddr | .crc | .txfc | .txseq | .txsa | .txda | .txlen | .fblen => false

end Sys2Proof.Machine
end

