-- ==== Sys2Proof/Machine/Operands.lean ====
section
/-!
DEFINITION. The operand forms: a register by its number (10_state.md R10 to R12), a buffer byte by its index (R25), and
the lengths the commands compute from `PLEN`.
-/

namespace Sys2Proof.Machine

/-- The value of a register, zero-extended (43_system.md R131). -/
def readReg (r : Reg) (s : State) : Word :=
  match r with
  | .laddr => s.laddr.setWidth 32
  | .plen => s.plen.setWidth 32
  | .seqcnt => s.seqcnt.setWidth 32
  | .txdly => s.txdly.setWidth 32
  | .tmo => s.tmo.setWidth 32
  | .daddr => s.daddr.setWidth 32
  | .status => (statusWord s).setWidth 32
  | .crc => s.crc.setWidth 32
  | .elapsed => s.elapsed.setWidth 32
  | .txfc => s.txfc.setWidth 32
  | .txseq => s.txseq.setWidth 32
  | .txsa => s.txsa.setWidth 32
  | .txda => s.txda.setWidth 32
  | .txlen => s.txlen.setWidth 32
  | .rxfc => s.rxfc.setWidth 32
  | .rxseq => s.rxseq.setWidth 32
  | .rxsa => s.rxsa.setWidth 32
  | .rxda => s.rxda.setWidth 32
  | .rxfcs => s.rxfcs.setWidth 32
  | .fblen => s.fblen.setWidth 32

/-- The state with a register the host may write set to `v`, reduced to the register's width (10_state.md R11). A
read-only register keeps its value: `REG.WR` fails before it gets here (43_system.md R132). -/
def writeReg (r : Reg) (v : Half) (s : State) : State :=
  match r with
  | .laddr => { s with laddr := v.setWidth 4 }
  | .plen => { s with plen := v.setWidth 8 }
  | .seqcnt => { s with seqcnt := v.setWidth 8 }
  | .txdly => { s with txdly := v }
  | .tmo => { s with tmo := v }
  | .daddr => { s with daddr := v.setWidth 4 }
  | .crc => { s with crc := v }
  | .txfc => { s with txfc := v.setWidth 8 }
  | .txseq => { s with txseq := v.setWidth 8 }
  | .txsa => { s with txsa := v.setWidth 4 }
  | .txda => { s with txda := v.setWidth 4 }
  | .txlen => { s with txlen := v.setWidth 8 }
  | .fblen => { s with fblen := v.setWidth 8 }
  | .status => s
  | .elapsed => s
  | .rxfc => s
  | .rxseq => s
  | .rxsa => s
  | .rxda => s
  | .rxfcs => s

/-- `REG.WR` of `v` to a register whose range does not hold it (10_state.md R14). -/
def regValueRefused (r : Reg) (v : Half) : Bool :=
  r == .plen && Nat.blt Config.maxPlen v.toNat

/-- The byte that a byte-write command stores (30_encoding.md R71). -/
def byteOperand (v : Half) : Byte := v.setWidth 8

/-- `FLEN`, `PLEN + 6` (00_scope.md R5), in as many bits as it takes (40_crc.md R82). -/
def flen (s : State) : Nat := s.plen.toNat + 6

/-- The payload the host supplied: `TXPAY[0 .. TXLEN-1]` (10_state.md R23). -/
def suppliedPayload (s : State) : List Byte := Memory.readAll s.txpay 0 s.txlen.toNat

/-- The valid bytes of the frame buffer, `FBUF[0 .. FBLEN-1]` (10_state.md R26). -/
def frameBytes (s : State) : List Byte := Memory.readAll s.fbuf 0 s.fblen.toNat

end Sys2Proof.Machine
end

