-- ==== Sys2Proof/Machine/Ops.lean ====
section
/-!
DEFINITION. The shared operations: ending a command with a response or a failure (60_exceptions.md R140), reset
(70_reset_and_hazards.md R160), the environment's moves (20_memory.md R50), the pipe primitives (20_memory.md R44, R45),
and the steps of serializing and delivering a frame (41_frame_codec.md R93, R94).
-/

namespace Sys2Proof.Machine

/-! ### Ending a command -/

/-- The numeric value of a result code (60_exceptions.md R141). -/
def rcByte : ResultCode → Byte
  | .ok => 0x00
  | .noFrame => 0x01
  | .lengthMismatch => 0x10
  | .fcsMismatch => 0x11
  | .payloadTooLong => 0x12
  | .linkIo => 0x20
  | .linkTimeout => 0x21
  | .illegalCommand => 0x30
  | .illegalOperand => 0x31

/-- The command ends: its response is on the port and `PHASE` is `IDLE` (10_state.md R27, 30_encoding.md R70). -/
def respond (rc : ResultCode) (val : Word) (s : State) : State :=
  { s with ctl := .idle, response := some ⟨rc, val⟩ }

/-- Where the command in progress goes on (10_state.md R27). -/
def setCtl (c : Control) (s : State) : State := { s with ctl := c }

/-- A command is accepted and goes to its first interleaving point: `PHASE` is `RUN`, and there is no response yet
(10_state.md R27, 30_encoding.md R70). -/
def accept (c : Control) (s : State) : State := { s with ctl := c, response := none }

/-- `raise` (60_exceptions.md R140): the command ends here with the failure's code and `val` = 0. What was written stays
written; there is no handler, no saved state and nothing to return from (R140, R146). -/
def raise (rc : ResultCode) (s : State) : State := respond rc 0 s

/-- The response to an illegal word: nothing else changes (30_encoding.md R74). -/
def rejectWord (s : State) : State := raise .illegalCommand s

/-! ### Reset -/

/-- The reset state of every register, flag, buffer byte and of the pipe, with no response (10_state.md R30,
70_reset_and_hazards.md R160, R162): the pipe is closed and `TXBUF` discarded, `RXQ` and `WIRE` are kept. What lies outside
the block (the host's words, the environment, the parameters) is kept. -/
def resetBlock (s : State) : State :=
  { State.reset with
    rxq := s.rxq, wire := s.wire, script := s.script, env := s.env, params := s.params }

/-! ### The environment -/

/-- The command in progress is at an interleaving point and the environment's turn there is not yet known. -/
def held (s : State) : Bool := s.env.turns.isEmpty && s.env.openEnded

/-- The environment's turn at this interleaving point: the first of `env.turns`, or no move when there is none left. -/
def nextTurn (s : State) : EnvTurn :=
  match s.env.turns with
  | [] => {}
  | t :: _ => t

/-- The state with that turn taken off `env`. -/
def dropTurn (s : State) : State :=
  { s with env := { s.env with turns := s.env.turns.tail } }

/-- `RXQ` is within its capacity (20_memory.md R43). -/
def rxWithin (s : State) : Bool :=
  match s.params.rxDepth with
  | none => true
  | some d => Nat.ble s.rxq.length d

/-- The arriving bytes fit in `RXQ` (93_implementation_defined.md U11). -/
def rxFits (bs : List Byte) (s : State) : Bool :=
  bs.isEmpty || rxWithin { s with rxq := s.rxq ++ bs }

/-- The environment appends bytes at the tail of `RXQ` and moves a prefix of `TXBUF` to `WIRE` (20_memory.md R50). -/
def envMoves (t : EnvTurn) (s : State) : State :=
  { s with
    rxq := s.rxq ++ t.arrive
    wire := s.wire ++ s.txbuf.take t.drain
    txbuf := s.txbuf.drop t.drain }

/-- The environment takes its turn, and `k` goes on with the failure it chose for the primitive called here. A reset input
abandons the command without a response (70_reset_and_hazards.md R160). -/
def withTurn (s : State) (k : Option Nat → State → Result) : Result :=
  match rxFits (nextTurn s).arrive s, (nextTurn s).resetInput with
  | false, _ => .refused .rxOverflow
  | true, true => .next (resetBlock (envMoves (nextTurn s) (dropTurn s)))
  | true, false => k (nextTurn s).fail (envMoves (nextTurn s) (dropTurn s))

/-- The block is idle and the host presents no word: the environment may act, and the reset input may be asserted. -/
def idleStep (s : State) : Result := withTurn s fun _ s' => .next s'

/-! ### The pipe primitives

`fail` is the environment's choice for this call (20_memory.md R45 (b)). -/

/-- What `PipeOpen` does when it succeeds: a freshly opened pipe holds no bytes (20_memory.md R44). -/
def pipeOpened (s : State) : State := { s with opened := true, rxq := [], txbuf := [] }

/-- What `PipeClose` does when it succeeds: bytes not yet on the line are lost (20_memory.md R44); on a closed pipe it does
nothing (42_link.md R111; assumption log 10). -/
def pipeClosed (s : State) : State :=
  { s with opened := false, txbuf := bif s.opened then [] else s.txbuf }

/-- What `PipeFlush` does when it succeeds (20_memory.md R44, R59). -/
def pipeFlushed (s : State) : State := { s with wire := s.wire ++ s.txbuf, txbuf := [] }

/-- `PipeOpen`, or `none` where it fails (20_memory.md R45). -/
def pipeOpen (fail : Option Nat) (s : State) : Option State :=
  if fail.isSome then none else some (pipeOpened s)

/-- `PipeClose`, or `none` where it fails (20_memory.md R45). -/
def pipeClose (fail : Option Nat) (s : State) : Option State :=
  if fail.isSome then none else some (pipeClosed s)

/-- A primitive that needs an open pipe fails here (20_memory.md R45). -/
def pipeFails (fail : Option Nat) (s : State) : Bool := !s.opened || fail.isSome

/-- `PipeAvail` (20_memory.md R44), or `none` where it fails. -/
def pipeAvail (fail : Option Nat) (s : State) : Option Nat :=
  if pipeFails fail s then none else some s.rxq.length

/-- `PipeWrite` (20_memory.md R44). -/
def pipeWrite (bs : List Byte) (s : State) : State := { s with txbuf := s.txbuf ++ bs }

/-- What a failed `PipeWrite` leaves: any prefix of the bytes may have been appended (20_memory.md R45). -/
def pipeWriteFailed (fail : Option Nat) (bs : List Byte) (s : State) : State :=
  pipeWrite (bs.take (fail.getD 0)) s

/-- `PipeFlush`, or `none` where it fails (20_memory.md R45). -/
def pipeFlush (fail : Option Nat) (s : State) : Option State :=
  if pipeFails fail s then none else some (pipeFlushed s)

/-- `PipeRead(n)` takes the first `n` bytes of `RXQ` (20_memory.md R44): the state without them. -/
def pipeDrop (n : Nat) (s : State) : State := { s with rxq := s.rxq.drop n }

/-! ### Serializing and delivering -/

/-- The bytes before the checksum of the frame that the TX registers describe (41_frame_codec.md R93). -/
def txBody (s : State) : List Byte :=
  frameBody s.txfc s.txseq s.txsa s.txda (suppliedPayload s) s.plen.toNat

/-- The bytes `b` are in the frame buffer, which holds `FLEN` valid bytes (41_frame_codec.md R93, 42_link.md R114
line 7). -/
def bufferFrame (b : List Byte) (s : State) : State :=
  { s with fbuf := Memory.writeAll s.fbuf 0 b, fblen := BitVec.ofNat 8 (flen s) }

/-- The shared generator is left at `c` (10_state.md R20). -/
def setCrc (c : Half) (s : State) : State := { s with crc := c }

/-- The steps of `FRM.ENC` (41_frame_codec.md R93), or `none` for `PayloadTooLong`, raised before anything is written. -/
def encodeTx (s : State) : Option State :=
  (enc s.txfc s.txseq s.txsa s.txda (suppliedPayload s) s.plen.toNat).map fun frame =>
    setCrc (crcAcc (txBody s)) (bufferFrame frame s)

/-- `RXV` falls (10_state.md R19). -/
def clearRxv (s : State) : State := { s with rxv := false }

/-- The generator has run over the covered bytes of a frame (41_frame_codec.md R94, 42_link.md R114 line 8). -/
def checkFrame (b : List Byte) (s : State) : State :=
  setCrc (crcAcc (coveredBytes b s.plen.toNat)) s

/-- The frame is delivered: the RX registers and `RXPAY[0 .. PLEN-1]` are written and `RXV` is set (10_state.md R24). -/
def deliver (b : List Byte) (s : State) : State :=
  { s with
    rxfc := byteAt b 0
    rxseq := byteAt b 1
    rxsa := sourceOf b
    rxda := destOf b
    rxfcs := sentFcs b s.plen.toNat
    rxpay := Memory.writeAll s.rxpay 0 (payloadOf b s.plen.toNat)
    rxv := true }

end Sys2Proof.Machine
end

