-- ==== Sys2Proof/Machine/Crc.lean ====
section
/-!
DEFINITION. The commands of the CRC generator (40_crc.md).
-/

namespace Sys2Proof.Machine

/-- `CRC.INIT` (40_crc.md R83). -/
def execCrcInit (s : State) : Result := .next (respond .ok 0 (setCrc crcSeed s))

/-- `CRC.UPD d` (40_crc.md R84). -/
def execCrcUpd (d : Byte) (s : State) : Result :=
  .next (respond .ok 0 (setCrc (crcStep s.crc d) s))

/-- `CRC.FIN` (40_crc.md R85). -/
def execCrcFin (s : State) : Result :=
  .next (respond .ok ((s.crc ^^^ crcXorOut).setWidth 32) s)

end Sys2Proof.Machine
end

