-- ==== Sys2Proof/Machine/Frames.lean ====
section
/-!
DEFINITION. The commands of the frame serializer and deserializer, and the buffer commands (41_frame_codec.md).
-/

namespace Sys2Proof.Machine

/-- `FRM.ENC` (41_frame_codec.md R93). -/
def execFrmEnc (s : State) : Result :=
  match encodeTx s with
  | none => .next (raise .payloadTooLong s)
  | some s' => .next (respond .ok 0 s')

/-- `FRM.DEC` once the length is right (41_frame_codec.md R94). -/
def decodeBuffer (b : List Byte) (s : State) : Result :=
  match fcsMatches b s.plen.toNat with
  | true => .next (respond .ok 0 (deliver b (checkFrame b s)))
  | false => .next (raise .fcsMismatch (checkFrame b s))

/-- `FRM.DEC` (41_frame_codec.md R94): `RXV` falls first, then the length is tested, then the checksum. -/
def execFrmDec (s : State) : Result :=
  match s.fblen.toNat == flen s with
  | false => .next (raise .lengthMismatch (clearRxv s))
  | true => decodeBuffer (frameBytes s) (clearRxv s)

/-- `FRM.ERRC fc` (41_frame_codec.md R95). -/
def execFrmErrc (fc : Byte) (s : State) : Result :=
  .next (respond .ok ((errorCode fc).setWidth 32) s)

/-- `TXP.WR i, b` (41_frame_codec.md R96). -/
def execTxpWr (idx : Byte) (v : Half) (s : State) : Result :=
  if idx.toNat < Config.payloadSize then
    .next (respond .ok 0 { s with txpay := Memory.write s.txpay idx.toNat (byteOperand v) })
  else .next (raise .illegalOperand s)

/-- `RXP.RD i` (41_frame_codec.md R97). -/
def execRxpRd (idx : Byte) (s : State) : Result :=
  if idx.toNat < Config.payloadSize then
    .next (respond .ok ((Memory.read s.rxpay idx.toNat).setWidth 32) s)
  else .next (raise .illegalOperand s)

/-- `FB.WR i, b` (41_frame_codec.md R98). -/
def execFbWr (idx : Byte) (v : Half) (s : State) : Result :=
  if idx.toNat < Config.frameBufferSize then
    .next (respond .ok 0 { s with fbuf := Memory.write s.fbuf idx.toNat (byteOperand v) })
  else .next (raise .illegalOperand s)

/-- `FB.RD i` (41_frame_codec.md R99). -/
def execFbRd (idx : Byte) (s : State) : Result :=
  if idx.toNat < Config.frameBufferSize then
    .next (respond .ok ((Memory.read s.fbuf idx.toNat).setWidth 32) s)
  else .next (raise .illegalOperand s)

end Sys2Proof.Machine
end

