-- ==== Sys2Proof/Machine/Engine.lean ====
section
/-!
DEFINITION. The link controller (42_link.md): what a command in progress does from one interleaving point to the next
(20_memory.md R52), and how it is carried on to its end.
-/

namespace Sys2Proof.Machine

/-- `POLL_INTERVAL`, 10 ms, in the unit and width of `ELAPSED` (00_scope.md R5). -/
def pollInterval : BitVec 17 := 10

/-- A primitive failed: the command ends with `LinkError`, `LINK_IO` (20_memory.md R45). -/
def linkIo (s : State) : Result := .next (raise .linkIo s)

/-- The command in progress goes on to the pipe primitive `p`. -/
def goto (p : Point) (s : State) : Result := .next (setCtl (.run p) s)

/-- The command in progress goes into a wait. -/
def pause (w : Pause) (s : State) : Result := .next (setCtl (.wait w) s)

/-! ### Opening and closing -/

/-- `LNK.OPEN` at `PipeOpen` (42_link.md R110). -/
def atOpen (fail : Option Nat) (s : State) : Result :=
  match pipeOpen fail s with
  | none => linkIo s
  | some s' => .next (respond .ok 0 s')

/-- `LNK.CLOSE` at `PipeClose` (42_link.md R111). -/
def atClose (fail : Option Nat) (s : State) : Result :=
  match pipeClose fail s with
  | none => linkIo s
  | some s' => .next (respond .ok 0 s')

/-! ### Sending -/

/-- The `FLEN` bytes that a send gives to the pipe (42_link.md R113). -/
def frameToSend (s : State) : List Byte := Memory.readAll s.fbuf 0 (flen s)

/-- The whole-frame write of 42_link.md R113, then step 5 of R112. -/
def atWrite (c : Caller) (fail : Option Nat) (s : State) : Result :=
  match pipeFails fail s with
  | true => linkIo (pipeWriteFailed fail (frameToSend s) s)
  | false => goto (.flush c) (pipeWrite (frameToSend s) s)

/-- The write of frame byte `i` (42_link.md R113). -/
def atByteWrite (c : Caller) (i : Nat) (fail : Option Nat) (s : State) : Result :=
  match pipeFails fail s with
  | true => linkIo (pipeWriteFailed fail [Memory.read s.fbuf i] s)
  | false => goto (.byteFlush c i) (pipeWrite [Memory.read s.fbuf i] s)

/-- The flush after frame byte `i` (42_link.md R113). -/
def atByteFlush (c : Caller) (i : Nat) (fail : Option Nat) (s : State) : Result :=
  match pipeFlush fail s with
  | none => linkIo s
  | some s' => pause (.byte c i) s'

/-- After the wait that follows frame byte `i`: the next byte, or step 5 of R112 (42_link.md R113). -/
def afterByte (c : Caller) (i : Nat) (s : State) : Result :=
  match Nat.blt (i + 1) (flen s) with
  | true => goto (.byteWrite c (i + 1)) s
  | false => goto (.flush c) s

/-- The send is done (42_link.md R112 step 6, R115 line 3). -/
def sent (c : Caller) (s : State) : Result :=
  match c with
  | .own => .next (respond .ok 0 s)
  | .sync =>
    match reqAck s.txfc with
    | true => goto (.avail .sync) s
    | false => .next (respond .ok 0 s)

/-- The flush that ends a send (42_link.md R112 step 5). -/
def atFlush (c : Caller) (fail : Option Nat) (s : State) : Result :=
  match pipeFlush fail s with
  | none => linkIo s
  | some s' => sent c s'

/-! ### Polling -/

/-- A poll of `LNK.SYNC` delivered no reply: the timeout or another wait (42_link.md R115 lines 7 and 8). -/
def noReply (s : State) : Result :=
  match Nat.blt s.tmo.toNat s.elapsed.toNat with
  | true => .next (raise .linkTimeout s)
  | false => pause .poll s

/-- A poll ends with `NOFRAME` (42_link.md R114 line 5). -/
def noFrame (c : Caller) (s : State) : Result :=
  match c with
  | .own => .next (respond .noFrame 0 s)
  | .sync => noReply s

/-- `PipeAvail` of a poll (42_link.md R114 lines 4 and 5). -/
def atAvail (c : Caller) (fail : Option Nat) (s : State) : Result :=
  match pipeAvail fail s with
  | none => linkIo s
  | some a =>
    match Nat.blt a (flen s) with
    | true => noFrame c s
    | false => goto (.read c) s

/-- A delivered frame is a reply (42_link.md R115 line 6, R116 line 6a). -/
def isReply (s : State) : Bool :=
  match s.params.replyMatch with
  | .any => true
  | .seq => s.rxseq == s.txseq

/-- A poll delivered a frame (42_link.md R114 line 15, R115 line 6, R116). -/
def delivered (c : Caller) (s : State) : Result :=
  match c with
  | .own => .next (respond .ok 0 s)
  | .sync =>
    match isReply s with
    | true => .next (respond .ok 1 s)
    | false => noReply (clearRxv s)

/-- A poll has read the frame `b` (42_link.md R114 lines 7 to 16): the checksum is tested first, then the address. -/
def gotFrame (c : Caller) (b : List Byte) (s : State) : Result :=
  match fcsMatches b s.plen.toNat, destOf b == s.laddr with
  | false, _ => .next (raise .fcsMismatch (checkFrame b (bufferFrame b s)))
  | true, true => delivered c (deliver b (checkFrame b (bufferFrame b s)))
  | true, false => goto (.avail c) (checkFrame b (bufferFrame b s))

/-- `PipeRead` of a poll (42_link.md R114 line 6). -/
def atRead (c : Caller) (fail : Option Nat) (s : State) : Result :=
  match pipeFails fail s, Nat.blt s.rxq.length (flen s) with
  | true, _ => linkIo s
  | false, true => .fault .shortRead
  | false, false => gotFrame c (s.rxq.take (flen s)) (pipeDrop (flen s) s)

/-- One wait of `LNK.SYNC` is counted (42_link.md R115 line 8). -/
def countWait (s : State) : State := { s with elapsed := s.elapsed + pollInterval }

/-- The wait of `LNK.SYNC` is over (42_link.md R115 line 8). -/
def afterPoll (s : State) : Result := goto (.avail .sync) (countWait s)

/-! ### Carrying a command on -/

/-- What a command does at the interleaving point it is at, after the environment's turn there. -/
def atPoint (fail : Option Nat) (s : State) : Result :=
  match s.ctl with
  | .idle => .next s
  | .run .opening => atOpen fail s
  | .run .closing => atClose fail s
  | .run (.write c) => atWrite c fail s
  | .run (.byteWrite c i) => atByteWrite c i fail s
  | .run (.byteFlush c i) => atByteFlush c i fail s
  | .run (.flush c) => atFlush c fail s
  | .run (.avail c) => atAvail c fail s
  | .run (.read c) => atRead c fail s
  | .wait (.byte c i) => afterByte c i s
  | .wait .poll => afterPoll s

/-- One pass from an interleaving point to the next: the environment's turn, then the block. -/
def advance (s : State) : Result := withTurn s atPoint

/-- The command in progress can be carried on: there is one, and the environment's next turn is known. -/
def canAdvance (s : State) : Bool := s.ctl != .idle && !held s

/-- At most `n` passes, ending early where the command ends or its environment is not yet known. -/
def carryOn : Nat → State → Result
  | 0, s => .next s
  | n + 1, s =>
    match canAdvance s with
    | false => .next s
    | true =>
      match advance s with
      | .next s' => carryOn n s'
      | .fault f => .fault f
      | .refused r => .refused r

/-- The bytes in `RXQ` and those the environment's known turns will append. -/
def bytesToCome (s : State) : Nat :=
  s.rxq.length + (s.env.turns.map fun t => t.arrive.length).sum

/-- More passes than a command can take before it ends or waits for its environment: two for each byte to come, two for
each poll of `LNK.SYNC`, three for each frame byte, and a few. A command that took more would be in progress still, and
the next step would go on with it: nothing is cut off (70_reset_and_hazards.md R171; assumption log 16). -/
def passBudget (s : State) : Nat :=
  2 * bytesToCome s + 2 * (s.tmo.toNat / 10 + 2) + 3 * flen s + 8

/-- A command in progress is carried on. -/
def resume (s : State) : Result := carryOn (passBudget s) s

/-- A command is accepted, goes to its first interleaving point `ctl` and is carried on. -/
def launch (ctl : Control) (s : State) : Result :=
  resume (accept ctl s)

/-- Where the write sequence of 42_link.md R113 begins. -/
def firstWrite (c : Caller) (s : State) : Point :=
  match s.txdly == 0 with
  | true => .write c
  | false => .byteWrite c 0

/-- Steps 1 and 2 of 42_link.md R112. -/
def assignHeader (s : State) : State :=
  { s with txsa := s.laddr, txda := s.daddr, txseq := s.seqcnt, seqcnt := s.seqcnt + 1 }

/-- Steps 1 to 5 of 42_link.md R112, and what follows a send for its caller. -/
def startSend (c : Caller) (s : State) : Result :=
  match encodeTx (assignHeader s) with
  | none => .next (raise .payloadTooLong (assignHeader s))
  | some s' => launch (.run (firstWrite c s')) s'

end Sys2Proof.Machine
end

