-- ==== Sys2Proof/Machine/Link.lean ====
section
/-!
DEFINITION. The commands of the link controller (42_link.md), each started at its first interleaving point and carried on
by Machine/Engine.lean.
-/

namespace Sys2Proof.Machine

/-- `LNK.OPEN` (42_link.md R110). -/
def execLnkOpen (s : State) : Result := launch (.run .opening) s

/-- `LNK.CLOSE` (42_link.md R111). -/
def execLnkClose (s : State) : Result := launch (.run .closing) s

/-- `LNK.SEND` (42_link.md R112). -/
def execLnkSend (s : State) : Result := startSend .own s

/-- `LNK.POLL` (42_link.md R114). -/
def execLnkPoll (s : State) : Result := launch (.run (.avail .own)) (clearRxv s)

/-- Line 1 of 42_link.md R115. -/
def startSync (s : State) : State := { s with rxv := false, elapsed := 0 }

/-- `LNK.SYNC` (42_link.md R115). -/
def execLnkSync (s : State) : Result := startSend .sync (startSync s)

end Sys2Proof.Machine
end

