-- ==== Sys2Proof/Machine/System.lean ====
section
/-!
DEFINITION. The system commands (43_system.md).
-/

namespace Sys2Proof.Machine

/-- `SYS.RESET` (43_system.md R130). The `PipeClose` it calls cannot make it fail, and reset leaves the pipe closed
whatever that call did (R130, 70_reset_and_hazards.md R162; assumption log 6 and 7). -/
def execSysReset (s : State) : Result := .next (respond .ok 0 (resetBlock s))

/-- `REG.RD r` (43_system.md R131). -/
def execRegRd (num : Byte) (s : State) : Result :=
  match regOf num with
  | none => .next (raise .illegalOperand s)
  | some r => .next (respond .ok (readReg r s) s)

/-- `REG.WR r, v` (43_system.md R132); the three failures in the order of 60_exceptions.md R144. -/
def execRegWr (num : Byte) (v : Half) (s : State) : Result :=
  match regOf num with
  | none => .next (raise .illegalOperand s)
  | some r =>
    if regReadOnly r then .next (raise .illegalOperand s)
    else if regValueRefused r v then .next (raise .illegalOperand s)
    else .next (respond .ok 0 (writeReg r v s))

end Sys2Proof.Machine
end

