-- ==== Sys2Proof/Machine/Dispatch.lean ====
section
/-!
DEFINITION. The meaning of every command (30_encoding.md R73): one arm for each row of spec/opcode_table.json.
-/

namespace Sys2Proof.Machine

def exec (i : Instr) (s : State) : Host.Outcome State Fault Refusal :=
  match i with
  | .sysReset => Sys2Proof.Machine.execSysReset s
  | .regRd num => Sys2Proof.Machine.execRegRd num s
  | .regWr num v => Sys2Proof.Machine.execRegWr num v s
  | .crcInit => Sys2Proof.Machine.execCrcInit s
  | .crcUpd d => Sys2Proof.Machine.execCrcUpd d s
  | .crcFin => Sys2Proof.Machine.execCrcFin s
  | .frmEnc => Sys2Proof.Machine.execFrmEnc s
  | .frmDec => Sys2Proof.Machine.execFrmDec s
  | .frmErrc fc => Sys2Proof.Machine.execFrmErrc fc s
  | .txpWr idx v => Sys2Proof.Machine.execTxpWr idx v s
  | .rxpRd idx => Sys2Proof.Machine.execRxpRd idx s
  | .fbWr idx v => Sys2Proof.Machine.execFbWr idx v s
  | .fbRd idx => Sys2Proof.Machine.execFbRd idx s
  | .lnkOpen => Sys2Proof.Machine.execLnkOpen s
  | .lnkClose => Sys2Proof.Machine.execLnkClose s
  | .lnkSend => Sys2Proof.Machine.execLnkSend s
  | .lnkPoll => Sys2Proof.Machine.execLnkPoll s
  | .lnkSync => Sys2Proof.Machine.execLnkSync s

end Sys2Proof.Machine
end

