-- ==== Sys2Proof/Machine/Step.lean ====
section
/-!
DEFINITION. One step of the machine: a command in progress goes on, or the port accepts the next word of the host
(30_encoding.md R70, R74), or nothing is presented and only the environment may act.
-/

namespace Sys2Proof.Machine

/-- The block carries out one command word (30_encoding.md R70, R74): an illegal word before anything else
(60_exceptions.md R144). -/
def present (w : Word) (s : State) : Result :=
  match Sys2Proof.decode w with
  | .ok i => exec i s
  | .error _ => .next (rejectWord s)

/-- One step. The port takes a word only while `PHASE` is `IDLE` (10_state.md R27). -/
def step (s : State) : Host.Outcome State Fault Refusal :=
  match s.ctl, s.script with
  | .idle, some w :: rest => present w { s with script := rest }
  | .idle, none :: rest => idleStep { s with script := rest }
  | .idle, [] => idleStep s
  | _, _ => resume s

/-- The state whose next step carries out the word of the low `nbits` bits of `w`: no command is in progress and the host
presents that word next. -/
def State.withFetchWord (s : State) (nbits w : Nat) : State :=
  { s with ctl := .idle, script := some (Sys2Proof.tableWord nbits w) :: s.script }

end Sys2Proof.Machine
end

