-- ==== Sys2Proof/Safety.lean ====
section
/-!
DEFINITION. What holds of every state the block can be in, the environments in which nothing goes wrong, and the views
of a state that statements speak of.
-/

namespace Sys2Proof.Machine

/-! ### The invariant -/

/-- While a frame is being sent: the frame buffer holds `FLEN` bytes (42_link.md R113), and inside `LNK.SYNC` nothing was
delivered and no wait was counted yet (R115 line 1). -/
def sendingOk (c : Caller) (s : State) : Bool :=
  (s.fblen.toNat == flen s) && (c == .own || (!s.rxv && s.elapsed == 0))

/-- While a poll is under way: nothing was delivered (42_link.md R114 line 1), and inside `LNK.SYNC` the request asked for
an acknowledgment and the time waited is within 10_state.md R21. -/
def pollingOk (c : Caller) (s : State) : Bool :=
  !s.rxv && (c == .own ||
    (reqAck s.txfc && Nat.ble s.elapsed.toNat (10 * (s.tmo.toNat / 10 + 1))))

/-- The position of the command in progress agrees with the rest of the state (42_link.md R112 to R115). -/
def controlOk (s : State) : Bool :=
  match s.ctl with
  | .idle => true
  | .run .opening => true
  | .run .closing => true
  | .run (.write c) => sendingOk c s
  | .run (.byteWrite c i) => sendingOk c s && Nat.blt i (flen s)
  | .run (.byteFlush c i) => sendingOk c s && Nat.blt i (flen s)
  | .run (.flush c) => sendingOk c s
  | .run (.avail c) => pollingOk c s
  | .run (.read c) => pollingOk c s && Nat.ble (flen s) s.rxq.length
  | .wait (.byte c i) => sendingOk c s && Nat.blt i (flen s)
  | .wait .poll => pollingOk .sync s && Nat.ble s.elapsed.toNat s.tmo.toNat

/-- The three buffers are in canonical form and hold nothing beyond their sizes (10_state.md R25). -/
def buffersWf (s : State) : Bool :=
  Memory.wf Config.payloadSize s.txpay && Memory.wf Config.payloadSize s.rxpay &&
    Memory.wf Config.frameBufferSize s.fbuf

/-- The invariant of the machine: `PLEN` is at most 249 (10_state.md R14); the buffers are well formed (R25); `ELAPSED` is
a whole number of poll intervals, at most 65540 (R21); `RXQ` is within its capacity (20_memory.md R43); a command in
progress has no response yet (30_encoding.md R70) and is where its pseudocode can be. -/
abbrev BlockInv (s : State) : Prop :=
  s.plen.toNat ≤ Config.maxPlen ∧
  buffersWf s = true ∧
  s.elapsed.toNat % 10 = 0 ∧ s.elapsed.toNat ≤ 65540 ∧
  rxWithin s = true ∧
  (s.ctl = .idle ∨ s.response = none) ∧
  controlOk s = true

/-! ### Environments -/

/-- The environment makes no move at all, and all of it is known. -/
abbrev Quiet (s : State) : Prop := s.env = { turns := [], openEnded := false }

/-- The environment never makes a primitive fail and never asserts the reset input, all of it is known, and `RXQ` is
unbounded. It may still deliver and drain bytes at every interleaving point (20_memory.md R52). -/
abbrev Benign (s : State) : Prop :=
  (∀ t ∈ s.env.turns, t.fail = none ∧ t.resetInput = false) ∧
  s.env.openEnded = false ∧ s.params.rxDepth = none

/-- The environment's turn at the next interleaving point is known, its bytes fit in `RXQ`, and the reset input is not
asserted there. -/
abbrev Ready (s : State) : Prop :=
  held s = false ∧ rxFits (nextTurn s).arrive s = true ∧ (nextTurn s).resetInput = false

/-- The reset input is asserted in none of the environment's turns. -/
abbrev NoResetInput (s : State) : Prop := ∀ t ∈ s.env.turns, t.resetInput = false

/-- The environment after `k` of its turns. -/
def envAfter (k : Nat) (s : State) : Env := { s.env with turns := s.env.turns.drop k }

/-- The bytes that arrive in the next `k` turns. -/
def arrivedIn (k : Nat) (s : State) : List Byte :=
  ((s.env.turns.take k).map fun t => t.arrive).flatten

/-- How many interleaving points a send has (42_link.md R112, R113): one write and one flush, or for each byte a write, a
flush and a wait, and then one flush. -/
def sendTurns (s : State) : Nat := if s.txdly = 0 then 2 else 3 * flen s + 1

/-! ### Views -/

/-- The RX frame registers and the RX payload buffer (10_state.md R24). -/
structure RxView where
  fc : Byte
  seq : Byte
  sa : Nibble
  da : Nibble
  fcs : Half
  pay : Memory
  deriving DecidableEq, Repr

/-- The RX frame registers of a state. -/
def rxView (s : State) : RxView := ⟨s.rxfc, s.rxseq, s.rxsa, s.rxda, s.rxfcs, s.rxpay⟩

/-- Everything given to the pipe so far: on the line, then not yet on it (20_memory.md R43). -/
def sentSoFar (s : State) : List Byte := s.wire ++ s.txbuf

/-- The frame that a send of this state's TX frame makes, or none if the payload is too long (42_link.md R112). -/
def sendFrame (s : State) : Option (List Byte) :=
  enc s.txfc s.seqcnt s.laddr s.daddr (suppliedPayload s) s.plen.toNat

/-- The buffer `m'` holds the bytes `b` at indices 0 on, and otherwise what `m` holds. -/
abbrev Holds (m' : Memory) (b : List Byte) (m : Memory) : Prop :=
  ∀ j, Memory.read m' j = if j < b.length then byteAt b j else Memory.read m j

/-- The command has ended with this result code. -/
abbrev Answered (rc : ResultCode) (s : State) : Prop :=
  s.ctl = .idle ∧ (s.response.map fun r => r.rc) = some rc

/-- The opcodes of format N (30_encoding.md R73). -/
def opcodesN : List Nat := [0x01, 0x10, 0x12, 0x20, 0x21, 0x30, 0x31, 0x32, 0x33, 0x34]

/-- The opcodes of format A (30_encoding.md R73). -/
def opcodesA : List Nat := [0x02, 0x11, 0x22, 0x24, 0x26]

/-- The opcodes of format AI (30_encoding.md R73). -/
def opcodesAI : List Nat := [0x03, 0x23, 0x25]

/-- An illegal word (30_encoding.md R74): its opcode is none of the eighteen, or a field that must be zero is not. -/
abbrev IllegalWord (w : Word) : Prop :=
  let op := w.toNat % 256
  op ∉ opcodesN ++ opcodesA ++ opcodesAI ∨
  (op ∈ opcodesN ∧ w.toNat / 256 ≠ 0) ∨
  (op ∈ opcodesA ∧ w.toNat / 65536 ≠ 0)

/-- The result codes a command can end with (60_exceptions.md R141, column "raised by"). -/
def codesOf : Instr → List ResultCode
  | .sysReset => [.ok]
  | .regRd _ => [.ok, .illegalOperand]
  | .regWr _ _ => [.ok, .illegalOperand]
  | .crcInit => [.ok]
  | .crcUpd _ => [.ok]
  | .crcFin => [.ok]
  | .frmEnc => [.ok, .payloadTooLong]
  | .frmDec => [.ok, .lengthMismatch, .fcsMismatch]
  | .frmErrc _ => [.ok]
  | .txpWr _ _ => [.ok, .illegalOperand]
  | .rxpRd _ => [.ok, .illegalOperand]
  | .fbWr _ _ => [.ok, .illegalOperand]
  | .fbRd _ => [.ok, .illegalOperand]
  | .lnkOpen => [.ok, .linkIo]
  | .lnkClose => [.ok, .linkIo]
  | .lnkSend => [.ok, .payloadTooLong, .linkIo]
  | .lnkPoll => [.ok, .noFrame, .fcsMismatch, .linkIo]
  | .lnkSync => [.ok, .payloadTooLong, .linkIo, .fcsMismatch, .linkTimeout]

/-- The commands that call pipe primitives and so have interleaving points (20_memory.md R52). -/
def isLink : Instr → Bool
  | .lnkOpen | .lnkClose | .lnkSend | .lnkPoll | .lnkSync => true
  | .sysReset | .regRd _ | .regWr _ _ | .crcInit | .crcUpd _ | .crcFin | .frmEnc | .frmDec | .frmErrc _
  | .txpWr _ _ | .rxpRd _ | .fbWr _ _ | .fbRd _ => false

/-- The command that a position belongs to (42_link.md R110 to R115), or none while the block is idle. -/
def commandOf : Control → Option Instr
  | .idle => none
  | .run .opening => some .lnkOpen
  | .run .closing => some .lnkClose
  | .run (.write .own) | .run (.byteWrite .own _) | .run (.byteFlush .own _) | .run (.flush .own)
  | .wait (.byte .own _) => some .lnkSend
  | .run (.avail .own) | .run (.read .own) => some .lnkPoll
  | .run (.write .sync) | .run (.byteWrite .sync _) | .run (.byteFlush .sync _) | .run (.flush .sync)
  | .wait (.byte .sync _) | .run (.avail .sync) | .run (.read .sync) | .wait .poll => some .lnkSync

/-- The bits of a byte sequence in the order the checksum takes them: each byte's bit 0 first (20_memory.md R55). -/
def bitsOf (b : List Byte) : List Bool :=
  (b.map fun x => (List.range 8).map fun k => x.getLsbD k).flatten

end Sys2Proof.Machine
end

