-- ==== Sys2Proof/WellFormed.lean ====
section
/-!
DEFINITION. When a command's operands name something the block has (30_encoding.md R75). A command that is not well
formed still has its word and its meaning: it ends with `IllegalOperand` and changes nothing.
-/

namespace Sys2Proof

/-- A register number and value that `REG.WR` accepts (43_system.md R132). -/
def regWrWellFormed (num : Byte) (v : Half) : Bool :=
  match Machine.regOf num with
  | none => false
  | some r => !Machine.regReadOnly r && (r != .plen || v.toNat ≤ Config.maxPlen)

/-- The operands of a command are in range (30_encoding.md R75). -/
def WellFormed : Instr → Bool
  | .sysReset => true
  | .regRd num => (Machine.regOf num).isSome
  | .regWr num v => regWrWellFormed num v
  | .crcInit => true
  | .crcUpd _ => true
  | .crcFin => true
  | .frmEnc => true
  | .frmDec => true
  | .frmErrc _ => true
  | .txpWr idx _ => idx.toNat < Config.payloadSize
  | .rxpRd idx => idx.toNat < Config.payloadSize
  | .fbWr idx _ => idx.toNat < Config.frameBufferSize
  | .fbRd idx => idx.toNat < Config.frameBufferSize
  | .lnkOpen => true
  | .lnkClose => true
  | .lnkSend => true
  | .lnkPoll => true
  | .lnkSync => true

end Sys2Proof
end

