-- ==== Sys2Proof/Certificates/Slice0/Obligations.lean ====
section
/-!
DEFINITION. The statements for the provers. Each docstring names the rule of the spec the statement formalises. A
statement that speaks of a whole next state as a record update of the state before says that every field it does not name
is unchanged.
-/

open Sys2Proof Sys2Proof.Machine

/-! ## The command word -/

/-- R73 (30_encoding.md): the word of every command, as a number: `imm16 * 0x10000 + a8 * 0x100 + op`. -/
def Obligations.CommandWordsFollowTheMap : Prop :=
  (encode .sysReset).toNat = 0x01 ∧
  (∀ r : Byte, (encode (.regRd r)).toNat = 0x100 * r.toNat + 0x02) ∧
  (∀ (r : Byte) (v : Half), (encode (.regWr r v)).toNat = 0x10000 * v.toNat + 0x100 * r.toNat + 0x03) ∧
  (encode .crcInit).toNat = 0x10 ∧
  (∀ d : Byte, (encode (.crcUpd d)).toNat = 0x100 * d.toNat + 0x11) ∧
  (encode .crcFin).toNat = 0x12 ∧
  (encode .frmEnc).toNat = 0x20 ∧
  (encode .frmDec).toNat = 0x21 ∧
  (∀ c : Byte, (encode (.frmErrc c)).toNat = 0x100 * c.toNat + 0x22) ∧
  (∀ (i : Byte) (v : Half), (encode (.txpWr i v)).toNat = 0x10000 * v.toNat + 0x100 * i.toNat + 0x23) ∧
  (∀ i : Byte, (encode (.rxpRd i)).toNat = 0x100 * i.toNat + 0x24) ∧
  (∀ (i : Byte) (v : Half), (encode (.fbWr i v)).toNat = 0x10000 * v.toNat + 0x100 * i.toNat + 0x25) ∧
  (∀ i : Byte, (encode (.fbRd i)).toNat = 0x100 * i.toNat + 0x26) ∧
  (encode .lnkOpen).toNat = 0x30 ∧
  (encode .lnkClose).toNat = 0x31 ∧
  (encode .lnkSend).toNat = 0x32 ∧
  (encode .lnkPoll).toNat = 0x33 ∧
  (encode .lnkSync).toNat = 0x34

/-- R71, R73, R74: a word decodes to a command exactly if it is that command's word: no bit of an encoding is dropped,
and each word has at most one meaning. -/
def Obligations.DecodeInvertsEncode : Prop :=
  ∀ (w : Word) (i : Instr), decode w = .ok i ↔ w = encode i

/-- R76, R93, R96, R115: words the spec writes out, of every unit, decode to the commands it says they are. -/
def Obligations.SampleWordsDecode : Prop :=
  decode 0x00010003 = .ok (.regWr 0x00 1) ∧
  decode 0x00000202 = .ok (.regRd 0x02) ∧
  decode 0x00003111 = .ok (.crcUpd 0x31) ∧
  decode 0x00000020 = .ok .frmEnc ∧
  decode 0x00640223 = .ok (.txpWr 2 0x64) ∧
  decode 0x00008422 = .ok (.frmErrc 0x84) ∧
  decode 0x00000034 = .ok .lnkSync

/-- R74: an illegal word (unknown opcode, or a must-be-zero field that is not zero) is answered with `ILLEGAL_COMMAND`
and changes no state; every other word is a command's. -/
def Obligations.IllegalWordChangesNothing : Prop :=
  (∀ w : Word, IllegalWord w ↔ ∀ i, encode i ≠ w) ∧
  ∀ (s : State) (w : Word) (rest : List (Option Word)),
    s.ctl = .idle → s.script = some w :: rest → IllegalWord w →
    step s = .next { s with script := rest, response := some ⟨.illegalCommand, 0⟩ }

/-- R70, R73: when the block is idle and the host presents the word of a command, the step is that command's, in the
state without that word among those still to be presented (the list of them is the model's own, assumption log 5). -/
def Obligations.StepRunsTheDecodedCommand : Prop :=
  ∀ (s : State) (w : Word) (rest : List (Option Word)) (i : Instr),
    s.ctl = .idle → s.script = some w :: rest → decode w = .ok i →
    step s = exec i { s with script := rest }

/-- R27, R51, R70: while a command is in progress the port accepts no word: a step leaves the host's words as they
are; and no command changes the host's words or the parameters (R29). The list of the host's words and the constant
field of the parameters are the model's choice (assumption log 5 and 8). -/
def Obligations.NoWordIsTakenWhileBusy : Prop :=
  (∀ s t : State, s.ctl ≠ .idle → step s = .next t → t.script = s.script ∧ t.params = s.params) ∧
  ∀ (i : Instr) (s t : State), exec i s = .next t → t.script = s.script ∧ t.params = s.params

/-! ## Reset -/

/-- R30: the reset value of every register, flag and buffer byte; the pipe is closed, `TXBUF` is discarded, `RXQ` and
`WIRE` are not altered; `PHASE` is `IDLE`. The same values stand in the state right after reset. -/
def Obligations.ResetGivesEveryResetValue : Prop :=
  ∀ s t : State, (t = resetBlock s ∨ t = State.reset) →
    t.laddr = 0 ∧ t.plen = 8 ∧ t.seqcnt = 0 ∧ t.txdly = 0 ∧ t.tmo = 0 ∧ t.daddr = 0 ∧
    statusWord t = 0 ∧ t.opened = false ∧ t.rxv = false ∧ t.crc = 0xFFFF ∧ t.elapsed = 0 ∧
    t.txfc = 0 ∧ t.txseq = 0 ∧ t.txsa = 0 ∧ t.txda = 0 ∧ t.txlen = 0 ∧
    t.rxfc = 0 ∧ t.rxseq = 0 ∧ t.rxsa = 0 ∧ t.rxda = 0 ∧ t.rxfcs = 0 ∧ t.fblen = 0 ∧
    (∀ j, Memory.read t.txpay j = 0 ∧ Memory.read t.rxpay j = 0 ∧ Memory.read t.fbuf j = 0) ∧
    phaseOf t = .idle ∧ t.txbuf = [] ∧
    (t = resetBlock s → t.rxq = s.rxq ∧ t.wire = s.wire)

/-- R130, R52, R162: `SYS.RESET` puts every register, flag and buffer byte at its reset value, closes the pipe, keeps
`RXQ` and `WIRE`, and answers `OK`. That the pipe is closed and `TXBUF` empty whatever the `PipeClose` in it did (R162
over R45), and that it takes no turn of the environment (R52), are the model's readings (DEDUCED, assumption log 6 and
7). -/
def Obligations.SysResetPutsTheBlockInReset : Prop :=
  decode 0x00000001 = .ok .sysReset ∧
  ∀ s : State, exec .sysReset s = .next
    { State.reset with
      rxq := s.rxq, wire := s.wire, script := s.script, env := s.env, params := s.params
      response := some ⟨.ok, 0⟩ }

/-- R160, R162, R50, R152: the reset input, asserted at an interleaving point of a command in progress, abandons the
command without a response and gives the reset state; asserted while the block is idle and no word is presented, it
gives the reset state too; what is on the line stays there, and `RXQ` keeps what it holds. Without it, a step in which
no word is presented to the idle block leaves every register, flag and buffer of the block as it is: only the
environment moves bytes. Where the reset input may land, and the list of the host's words, are the model's choice
(assumption log 17 and 5). -/
def Obligations.ResetInputAbandonsTheCommand : Prop :=
  (∀ (s : State) (turn : EnvTurn) (rest : List EnvTurn),
    s.ctl ≠ .idle → s.env.turns = turn :: rest → turn.resetInput = true → rxFits turn.arrive s = true →
    step s = .next
      { State.reset with
        rxq := s.rxq ++ turn.arrive
        wire := s.wire ++ s.txbuf.take turn.drain
        script := s.script, env := { s.env with turns := rest }, params := s.params }) ∧
  ∀ s : State, s.ctl = .idle → (s.script = [] ∨ ∃ rest, s.script = none :: rest) →
    rxFits (nextTurn s).arrive s = true →
    ((nextTurn s).resetInput = true → step s = .next
      { State.reset with
        rxq := s.rxq ++ (nextTurn s).arrive
        wire := s.wire ++ s.txbuf.take (nextTurn s).drain
        script := s.script.tail, env := envAfter 1 s, params := s.params }) ∧
    ((nextTurn s).resetInput = false → step s = .next
      { s with
        rxq := s.rxq ++ (nextTurn s).arrive, txbuf := s.txbuf.drop (nextTurn s).drain
        wire := s.wire ++ s.txbuf.take (nextTurn s).drain
        script := s.script.tail, env := envAfter 1 s })

/-! ## Registers -/

/-- R131 with the register table of R12 and the status layout of R19: `REG.RD` of each of the twenty numbers answers
that register, zero-extended, and changes nothing; of every other number it fails with `ILLEGAL_OPERAND`. -/
def Obligations.RegRdAnswersTheRegister : Prop :=
  (∀ r : Byte, decode (BitVec.ofNat 32 (0x100 * r.toNat + 0x02)) = .ok (.regRd r)) ∧
  ∀ s : State,
    (∀ p ∈ ([(0x00, s.laddr.toNat), (0x01, s.plen.toNat), (0x02, s.seqcnt.toNat), (0x03, s.txdly.toNat),
        (0x04, s.tmo.toNat), (0x05, s.daddr.toNat), (0x06, s.opened.toNat + 2 * s.rxv.toNat),
        (0x07, s.crc.toNat), (0x08, s.elapsed.toNat), (0x10, s.txfc.toNat), (0x11, s.txseq.toNat),
        (0x12, s.txsa.toNat), (0x13, s.txda.toNat), (0x14, s.txlen.toNat), (0x20, s.rxfc.toNat),
        (0x21, s.rxseq.toNat), (0x22, s.rxsa.toNat), (0x23, s.rxda.toNat), (0x24, s.rxfcs.toNat),
        (0x30, s.fblen.toNat)] : List (Byte × Nat)),
      exec (.regRd p.1) s =
        .next { s with ctl := .idle, response := some ⟨.ok, BitVec.ofNat 32 p.2⟩ }) ∧
    ∀ r : Byte, r ∉ ([0x00, 0x01, 0x02, 0x03, 0x04, 0x05, 0x06, 0x07, 0x08, 0x10, 0x11, 0x12, 0x13, 0x14,
        0x20, 0x21, 0x22, 0x23, 0x24, 0x30] : List Byte) →
      exec (.regRd r) s = .next { s with ctl := .idle, response := some ⟨.illegalOperand, 0⟩ }

/-- R132 with R11: `REG.WR` stores the value modulo 2 to the register's width, in that register only; it fails with
`ILLEGAL_OPERAND` and changes nothing for a read-only register, for an unassigned number, and for `PLEN` above 249. -/
def Obligations.RegWrStoresTheReducedValue : Prop :=
  (∀ (r : Byte) (v : Half),
    decode (BitVec.ofNat 32 (0x10000 * v.toNat + 0x100 * r.toNat + 0x03)) = .ok (.regWr r v)) ∧
  ∀ (s : State) (v : Half),
    let done := fun t : State => Host.Outcome.next (φ := Fault) (ρ := Refusal)
      { t with ctl := .idle, response := some ⟨.ok, 0⟩ }
    let refused := Host.Outcome.next (φ := Fault) (ρ := Refusal)
      { s with ctl := .idle, response := some ⟨.illegalOperand, 0⟩ }
    exec (.regWr 0x00 v) s = done { s with laddr := BitVec.ofNat 4 v.toNat } ∧
    (v.toNat ≤ 249 → exec (.regWr 0x01 v) s = done { s with plen := BitVec.ofNat 8 v.toNat }) ∧
    (249 < v.toNat → exec (.regWr 0x01 v) s = refused) ∧
    exec (.regWr 0x02 v) s = done { s with seqcnt := BitVec.ofNat 8 v.toNat } ∧
    exec (.regWr 0x03 v) s = done { s with txdly := v } ∧
    exec (.regWr 0x04 v) s = done { s with tmo := v } ∧
    exec (.regWr 0x05 v) s = done { s with daddr := BitVec.ofNat 4 v.toNat } ∧
    exec (.regWr 0x07 v) s = done { s with crc := v } ∧
    exec (.regWr 0x10 v) s = done { s with txfc := BitVec.ofNat 8 v.toNat } ∧
    exec (.regWr 0x11 v) s = done { s with txseq := BitVec.ofNat 8 v.toNat } ∧
    exec (.regWr 0x12 v) s = done { s with txsa := BitVec.ofNat 4 v.toNat } ∧
    exec (.regWr 0x13 v) s = done { s with txda := BitVec.ofNat 4 v.toNat } ∧
    exec (.regWr 0x14 v) s = done { s with txlen := BitVec.ofNat 8 v.toNat } ∧
    exec (.regWr 0x30 v) s = done { s with fblen := BitVec.ofNat 8 v.toNat } ∧
    ∀ r : Byte, r ∉ ([0x00, 0x01, 0x02, 0x03, 0x04, 0x05, 0x07, 0x10, 0x11, 0x12, 0x13, 0x14, 0x30] : List Byte) →
      exec (.regWr r v) s = refused

/-- R75: a command whose operands are out of range fails with `ILLEGAL_OPERAND` and changes no state; a command whose
operands are in range never answers `ILLEGAL_OPERAND`. -/
def Obligations.IllegalOperandExactlyWhenOutOfRange : Prop :=
  ∀ (i : Instr) (s : State),
    (WellFormed i = false →
      exec i s = .next { s with ctl := .idle, response := some ⟨.illegalOperand, 0⟩ }) ∧
    (WellFormed i = true → ∀ t, exec i s = .next t → ¬ Answered .illegalOperand t)

/-! ## The checksum generator -/

/-- R80, R81: one byte is exclusive-ored into the low half and eight rounds of shift and conditional exclusive-or
follow; a sequence is taken byte by byte from the seed 0xFFFF, and the checksum is the register exclusive-or 0xFFFF.
-/
def Obligations.ChecksumFollowsTheAlgorithm : Prop :=
  (∀ (c : Half) (d : Byte), crcStep c d =
    Nat.iterate (fun c : Half => if c.getLsbD 0 = true then (c >>> 1) ^^^ 0xA001#16 else c >>> 1) 8
      (c ^^^ d.setWidth 16)) ∧
  crcAcc [] = 0xFFFF ∧ crc16 [] = 0 ∧
  (∀ (s : List Byte) (d : Byte), crcAcc (s ++ [d]) = crcStep (crcAcc s) d) ∧
  (∀ s : List Byte, crc16 s = crcAcc s ^^^ 0xFFFF)

/-- R80, R81, in the equivalent forms that the spec marks as its own inference (R87): the bit-serial form, the table
form and the linearity of the generator. -/
def Obligations.GeneratorFormsAgree : Prop :=
  (∀ (c : Half) (d : Byte), crcStep c d =
    (List.range 8).foldl (fun (c : Half) k =>
      if (c.getLsbD 0 ^^ d.getLsbD k) = true then (c >>> 1) ^^^ 0xA001#16 else c >>> 1) c) ∧
  (∀ (c : Half) (d : Byte),
    crcStep c d = (c >>> 8) ^^^ crcStep 0 ((c ^^^ d.setWidth 16).setWidth 8)) ∧
  (crcStep 0 0x01 = 0xC0C1 ∧ crcStep 0 0x02 = 0xC181 ∧ crcStep 0 0x80 = 0xA001 ∧ crcStep 0 0xFF = 0x4040) ∧
  (∀ (c₁ c₂ : Half) (d₁ d₂ : Byte),
    crcStep (c₁ ^^^ c₂) (d₁ ^^^ d₂) = crcStep c₁ d₁ ^^^ crcStep c₂ d₂) ∧
  (∀ s t : List Byte, s.length = t.length →
    crc16 s ^^^ crc16 t = crcFrom 0 (List.zipWith (fun x y => x ^^^ y) s t))

/-- R80: for a fixed byte the step is a bijection of the register's values (the spec's own inference, in R82). -/
def Obligations.CrcStepIsABijection : Prop :=
  ∀ d : Byte, Function.Bijective fun c : Half => crcStep c d

/-- R80, R81, carried out on the inputs of the spec's table of check values (R86, marked as its own inference). -/
def Obligations.ChecksumCheckValues : Prop :=
  (crcAcc [] = 0xFFFF ∧ crc16 [] = 0x0000) ∧
  (crcAcc [0x00] = 0x40BF ∧ crc16 [0x00] = 0xBF40) ∧
  (crcAcc [0x01] = 0x807E ∧ crc16 [0x01] = 0x7F81) ∧
  (crcAcc [0x80] = 0xE0BE ∧ crc16 [0x80] = 0x1F41) ∧
  (crcAcc [0xFF] = 0x00FF ∧ crc16 [0xFF] = 0xFF00) ∧
  (crcAcc [0x41] = 0x707F ∧ crc16 [0x41] = 0x8F80) ∧
  (crcAcc [0x00, 0x00] = 0xB001 ∧ crc16 [0x00, 0x00] = 0x4FFE) ∧
  (crcAcc [0xFF, 0xFF] = 0x0000 ∧ crc16 [0xFF, 0xFF] = 0xFFFF) ∧
  (crcAcc [0x31, 0x32, 0x33, 0x34, 0x35, 0x36, 0x37, 0x38, 0x39] = 0x4B37 ∧
    crc16 [0x31, 0x32, 0x33, 0x34, 0x35, 0x36, 0x37, 0x38, 0x39] = 0xB4C8)

/-- R80, R81, R92, with a consequence that the spec marks as its own inference (R88 (a)): a byte sequence followed by
its checksum leaves the residue 0xB001, and a deserializer may test that instead of comparing checksums. -/
def Obligations.ValidFramesLeaveTheResidue : Prop :=
  (∀ s : List Byte, crcAcc (s ++ fcsBytes (crc16 s)) = 0xB001 ∧ crc16 (s ++ fcsBytes (crc16 s)) = 0x4FFE) ∧
  ∀ (b : List Byte) (plen : Nat), b.length = plen + 6 → (fcsMatches b plen = true ↔ crcAcc b = 0xB001)

/-- R80, R81, R92, with a consequence that the spec marks as its own inference (R88 (b)): a change of a valid frame
that is confined to sixteen consecutive bits is caught. The bits are in the order the generator takes them, each
byte's bit 0 first; that reading of "consecutive" is the model's (assumption log 19). -/
def Obligations.SixteenBitBurstIsCaught : Prop :=
  ∀ (b b' : List Byte) (plen p : Nat),
    b.length = plen + 6 → b'.length = plen + 6 → b ≠ b' →
    (∀ j, (j < p ∨ p + 16 ≤ j) → (bitsOf b)[j]? = (bitsOf b')[j]?) →
    fcsMatches b plen = true → dec b' plen = .error .fcsMismatch

/-- R83: `CRC.INIT` seeds the generator and touches nothing else. -/
def Obligations.CrcInitSeedsTheGenerator : Prop :=
  decode 0x00000010 = .ok .crcInit ∧
  ∀ s : State, exec .crcInit s =
    .next { s with crc := 0xFFFF, ctl := .idle, response := some ⟨.ok, 0⟩ }

/-- R84, its two examples among it: `CRC.UPD` advances the generator by its byte and touches nothing else. -/
def Obligations.CrcUpdAdvancesTheGenerator : Prop :=
  (∀ d : Byte, decode (BitVec.ofNat 32 (0x100 * d.toNat + 0x11)) = .ok (.crcUpd d)) ∧
  (∀ (d : Byte) (s : State), exec (.crcUpd d) s =
    .next { s with crc := crcStep s.crc d, ctl := .idle, response := some ⟨.ok, 0⟩ }) ∧
  crcStep 0xFFFF 0x00 = 0x40BF ∧ crcStep 0xFFFF 0x31 = 0x947E ∧
  ((List.range 8).map fun n => Nat.iterate crcRound (n + 1) 0xFFCE) =
    [0x7FE7, 0x9FF2, 0x4FF9, 0x87FD, 0xE3FF, 0xD1FE, 0x68FF, 0x947E]

/-- R85: `CRC.FIN` answers the register exclusive-or 0xFFFF and changes nothing. -/
def Obligations.CrcFinAnswersTheChecksum : Prop :=
  decode 0x00000012 = .ok .crcFin ∧
  ∀ s : State, exec .crcFin s =
    .next { s with ctl := .idle, response := some ⟨.ok, (s.crc ^^^ 0xFFFF).setWidth 32⟩ }

/-! ## Frames -/

/-- R91 with the layout of R60, R61 and R65: a payload that is too long fails; otherwise the bytes of the frame. -/
def Obligations.EncLaysOutTheFrame : Prop :=
  ∀ (fc seq : Byte) (sa da : Nibble) (p : List Byte) (plen : Nat),
    (plen < p.length → enc fc seq sa da p plen = none) ∧
    (p.length ≤ plen → ∃ b, enc fc seq sa da p plen = some b ∧ b.length = plen + 6 ∧
      byteAt b 0 = fc ∧ byteAt b 1 = seq ∧ (byteAt b 2).toNat = sa.toNat + 16 * da.toNat ∧ byteAt b 3 = 0 ∧
      (∀ i, i < p.length → byteAt b (4 + i) = byteAt p i) ∧
      (∀ i, p.length ≤ i → i < plen → byteAt b (4 + i) = 0) ∧
      (byteAt b (plen + 4)).toNat = (crc16 (b.take (plen + 4))).toNat % 256 ∧
      (byteAt b (plen + 5)).toNat = (crc16 (b.take (plen + 4))).toNat / 256)

/-- R92 with R62: the length is tested first, then the checksum, low byte first; then the fields are unpacked. -/
def Obligations.DecTestsLengthThenChecksum : Prop :=
  ∀ (b : List Byte) (plen : Nat),
    let fcs : Half := BitVec.ofNat 16 ((byteAt b (plen + 4)).toNat + 256 * (byteAt b (plen + 5)).toNat)
    (b.length ≠ plen + 6 → dec b plen = .error .lengthMismatch) ∧
    (b.length = plen + 6 → crc16 (b.take (plen + 4)) ≠ fcs → dec b plen = .error .fcsMismatch) ∧
    (b.length = plen + 6 → crc16 (b.take (plen + 4)) = fcs →
      dec b plen = .ok
        ({ fc := byteAt b 0, seq := byteAt b 1
           sa := BitVec.ofNat 4 ((byteAt b 2).toNat % 16), da := BitVec.ofNat 4 ((byteAt b 2).toNat / 16)
           payload := (b.drop 4).take plen }, fcs))

/-- R91, R92 (the round trip the spec marks as its own inference, R100): `dec` after `enc` gives the fields back, with
the payload padded; and `enc` of what `dec` returned gives the bytes back but for byte 3, which comes back as 0x00,
and the checksum that goes with it. -/
def Obligations.DecUndoesEnc : Prop :=
  (∀ (fc seq : Byte) (sa da : Nibble) (p : List Byte) (plen : Nat), p.length ≤ plen →
    ∃ b c, enc fc seq sa da p plen = some b ∧
      dec b plen = .ok (⟨fc, seq, sa, da, p ++ List.replicate (plen - p.length) 0⟩, c)) ∧
  ∀ (b : List Byte) (plen : Nat) (f : Frame) (c : Half), dec b plen = .ok (f, c) →
    enc f.fc f.seq f.sa f.da f.payload plen = some (withFcs ((b.take (plen + 4)).set 3 0))

/-- R91, R92 (the spec's own inference, R101): altering any one byte of a serialized frame makes `dec` fail with
`FCSMismatch`; with any other length it fails with `LengthMismatch`. -/
def Obligations.OneAlteredByteIsCaught : Prop :=
  (∀ (fc seq : Byte) (sa da : Nibble) (p b : List Byte) (plen i : Nat) (x : Byte),
    enc fc seq sa da p plen = some b → i < plen + 6 → x ≠ byteAt b i →
    dec (b.set i x) plen = .error .fcsMismatch) ∧
  ∀ (b : List Byte) (plen : Nat), b.length ≠ plen + 6 → dec b plen = .error .lengthMismatch

/-- R93: `FRM.ENC` serializes the TX registers into the frame buffer, or fails with `PAYLOAD_TOO_LONG` and changes
nothing. -/
def Obligations.FrmEncSerializesTheTxFrame : Prop :=
  decode 0x00000020 = .ok .frmEnc ∧
  ∀ s : State,
    (s.plen.toNat < s.txlen.toNat →
      exec .frmEnc s = .next { s with ctl := .idle, response := some ⟨.payloadTooLong, 0⟩ }) ∧
    (s.txlen.toNat ≤ s.plen.toNat → s.plen.toNat ≤ 249 → buffersWf s = true →
      ∃ b t, enc s.txfc s.txseq s.txsa s.txda (Memory.readAll s.txpay 0 s.txlen.toNat) s.plen.toNat = some b ∧
        exec .frmEnc s = .next t ∧
        t = { s with
          fbuf := t.fbuf, fblen := s.plen + 6, crc := crcAcc (b.take (s.plen.toNat + 4))
          ctl := .idle, response := some ⟨.ok, 0⟩ } ∧
        Holds t.fbuf b s.fbuf)

/-- R94: `FRM.DEC` lowers `RXV`, fails with `LENGTH_MISMATCH` or `FCS_MISMATCH`, in that order, or delivers the frame
of the frame buffer, for whatever destination. -/
def Obligations.FrmDecDeliversTheBufferedFrame : Prop :=
  decode 0x00000021 = .ok .frmDec ∧
  ∀ s : State,
    let plen := s.plen.toNat
    let b := Memory.readAll s.fbuf 0 s.fblen.toNat
    let acc := crcAcc (b.take (plen + 4))
    let fcs : Half := BitVec.ofNat 16 ((byteAt b (plen + 4)).toNat + 256 * (byteAt b (plen + 5)).toNat)
    (s.fblen.toNat ≠ plen + 6 →
      exec .frmDec s = .next { s with rxv := false, ctl := .idle, response := some ⟨.lengthMismatch, 0⟩ }) ∧
    (s.fblen.toNat = plen + 6 → acc ^^^ 0xFFFF ≠ fcs →
      exec .frmDec s =
        .next { s with rxv := false, crc := acc, ctl := .idle, response := some ⟨.fcsMismatch, 0⟩ }) ∧
    (s.fblen.toNat = plen + 6 → acc ^^^ 0xFFFF = fcs → buffersWf s = true →
      ∃ t, exec .frmDec s = .next t ∧
        t = { s with
          rxv := true, crc := acc, rxfc := byteAt b 0, rxseq := byteAt b 1
          rxsa := BitVec.ofNat 4 ((byteAt b 2).toNat % 16), rxda := BitVec.ofNat 4 ((byteAt b 2).toNat / 16)
          rxfcs := fcs, rxpay := t.rxpay, ctl := .idle, response := some ⟨.ok, 0⟩ } ∧
        Holds t.rxpay ((b.drop 4).take plen) s.rxpay)

/-- R93, R94 (the spec's own inference, R100, in register terms): after `FRM.ENC` returns `OK`, an immediate `FRM.DEC`
returns `OK` with the RX registers equal to the TX registers and the payload padded. -/
def Obligations.FrmDecUndoesFrmEnc : Prop :=
  ∀ s : State, s.txlen.toNat ≤ s.plen.toNat → s.plen.toNat ≤ 249 → buffersWf s = true →
    ∃ t u, exec .frmEnc s = .next t ∧ exec .frmDec t = .next u ∧ u.response = some ⟨.ok, 0⟩ ∧ u.rxv = true ∧
      u.rxfc = s.txfc ∧ u.rxseq = s.txseq ∧ u.rxsa = s.txsa ∧ u.rxda = s.txda ∧
      (∀ i, i < s.txlen.toNat → Memory.read u.rxpay i = Memory.read s.txpay i) ∧
      (∀ i, s.txlen.toNat ≤ i → i < s.plen.toNat → Memory.read u.rxpay i = 0) ∧
      (∀ i, s.plen.toNat ≤ i → Memory.read u.rxpay i = Memory.read s.rxpay i)

/-- R95: `FRM.ERRC` answers bits 7:6 of its byte and touches no state. -/
def Obligations.FrmErrcAnswersTheErrorCode : Prop :=
  (∀ c : Byte, decode (BitVec.ofNat 32 (0x100 * c.toNat + 0x22)) = .ok (.frmErrc c)) ∧
  ∀ (c : Byte) (s : State), exec (.frmErrc c) s =
    .next { s with ctl := .idle, response := some ⟨.ok, BitVec.ofNat 32 (c.toNat / 64)⟩ }

/-- R96: `TXP.WR` stores the low byte of its value at its index of `TXPAY`, and nothing else; an index above 248
fails. -/
def Obligations.TxpWrStoresOneByte : Prop :=
  (∀ (i : Byte) (v : Half),
    decode (BitVec.ofNat 32 (0x10000 * v.toNat + 0x100 * i.toNat + 0x23)) = .ok (.txpWr i v)) ∧
  ∀ (i : Byte) (v : Half) (s : State),
    (248 < i.toNat →
      exec (.txpWr i v) s = .next { s with ctl := .idle, response := some ⟨.illegalOperand, 0⟩ }) ∧
    (i.toNat ≤ 248 → buffersWf s = true → ∃ t, exec (.txpWr i v) s = .next t ∧
      t = { s with txpay := t.txpay, ctl := .idle, response := some ⟨.ok, 0⟩ } ∧
      ∀ j, Memory.read t.txpay j =
        if j = i.toNat then BitVec.ofNat 8 (v.toNat % 256) else Memory.read s.txpay j)

/-- R97: `RXP.RD` answers the byte at its index of `RXPAY` and changes nothing; an index above 248 fails. -/
def Obligations.RxpRdAnswersOneByte : Prop :=
  (∀ i : Byte, decode (BitVec.ofNat 32 (0x100 * i.toNat + 0x24)) = .ok (.rxpRd i)) ∧
  ∀ (i : Byte) (s : State),
    (248 < i.toNat →
      exec (.rxpRd i) s = .next { s with ctl := .idle, response := some ⟨.illegalOperand, 0⟩ }) ∧
    (i.toNat ≤ 248 → exec (.rxpRd i) s =
      .next { s with ctl := .idle, response := some ⟨.ok, (Memory.read s.rxpay i.toNat).setWidth 32⟩ })

/-- R98: `FB.WR` stores the low byte of its value at its index of `FBUF`, and nothing else; index 255 fails. -/
def Obligations.FbWrStoresOneByte : Prop :=
  (∀ (i : Byte) (v : Half),
    decode (BitVec.ofNat 32 (0x10000 * v.toNat + 0x100 * i.toNat + 0x25)) = .ok (.fbWr i v)) ∧
  ∀ (i : Byte) (v : Half) (s : State),
    (i.toNat = 255 →
      exec (.fbWr i v) s = .next { s with ctl := .idle, response := some ⟨.illegalOperand, 0⟩ }) ∧
    (i.toNat ≤ 254 → buffersWf s = true → ∃ t, exec (.fbWr i v) s = .next t ∧
      t = { s with fbuf := t.fbuf, ctl := .idle, response := some ⟨.ok, 0⟩ } ∧
      ∀ j, Memory.read t.fbuf j =
        if j = i.toNat then BitVec.ofNat 8 (v.toNat % 256) else Memory.read s.fbuf j)

/-- R99: `FB.RD` answers the byte at its index of `FBUF` and changes nothing; index 255 fails. -/
def Obligations.FbRdAnswersOneByte : Prop :=
  (∀ i : Byte, decode (BitVec.ofNat 32 (0x100 * i.toNat + 0x26)) = .ok (.fbRd i)) ∧
  ∀ (i : Byte) (s : State),
    (i.toNat = 255 →
      exec (.fbRd i) s = .next { s with ctl := .idle, response := some ⟨.illegalOperand, 0⟩ }) ∧
    (i.toNat ≤ 254 → exec (.fbRd i) s =
      .next { s with ctl := .idle, response := some ⟨.ok, (Memory.read s.fbuf i.toNat).setWidth 32⟩ })

/-! ## The link controller: opening, closing, sending -/

/-- R110 with R44 and R45: `LNK.OPEN` opens the pipe afresh, or fails with `LINK_IO` and leaves `OPEN` as it was. -/
def Obligations.LnkOpenOpensThePipeAfresh : Prop :=
  decode 0x00000030 = .ok .lnkOpen ∧
  ∀ s : State, Ready s →
    ((nextTurn s).fail = none → exec .lnkOpen s = .next
      { s with
        opened := true, rxq := [], txbuf := [], wire := s.wire ++ s.txbuf.take (nextTurn s).drain
        env := envAfter 1 s, ctl := .idle, response := some ⟨.ok, 0⟩ }) ∧
    ((nextTurn s).fail ≠ none → exec .lnkOpen s = .next
      { s with
        rxq := s.rxq ++ (nextTurn s).arrive, txbuf := s.txbuf.drop (nextTurn s).drain
        wire := s.wire ++ s.txbuf.take (nextTurn s).drain
        env := envAfter 1 s, ctl := .idle, response := some ⟨.linkIo, 0⟩ })

/-- R111 with R44 and R45: `LNK.CLOSE` closes an open pipe and loses the bytes not yet on the line; on a closed pipe
it does nothing but answer `OK`; or it fails with `LINK_IO` and leaves `OPEN` as it was. For a closed pipe R44's row
for `PipeClose` would empty `TXBUF`, where R111 says that nothing is done: that the model follows R111 there is its
own choice (DEDUCED, assumption log 10). -/
def Obligations.LnkCloseClosesThePipe : Prop :=
  decode 0x00000031 = .ok .lnkClose ∧
  ∀ s : State, Ready s →
    let turned := { s with
      rxq := s.rxq ++ (nextTurn s).arrive, txbuf := s.txbuf.drop (nextTurn s).drain
      wire := s.wire ++ s.txbuf.take (nextTurn s).drain
      env := envAfter 1 s, ctl := .idle }
    (s.opened = true → (nextTurn s).fail = none →
      exec .lnkClose s = .next { turned with opened := false, txbuf := [], response := some ⟨.ok, 0⟩ }) ∧
    (s.opened = false → (nextTurn s).fail = none →
      exec .lnkClose s = .next { turned with response := some ⟨.ok, 0⟩ }) ∧
    ((nextTurn s).fail ≠ none → exec .lnkClose s = .next { turned with response := some ⟨.linkIo, 0⟩ })

/-- R112 (and the spec's inferences R144, R145): with `TXLEN > PLEN` a send fails with `PAYLOAD_TOO_LONG`, whether or
not the pipe is open: the header registers are assigned and the counter has advanced, and nothing else has happened.
-/
def Obligations.TooLongPayloadStopsASend : Prop :=
  ∀ s : State, s.plen.toNat < s.txlen.toNat →
    exec .lnkSend s = .next
      { s with
        txsa := s.laddr, txda := s.daddr, txseq := s.seqcnt, seqcnt := s.seqcnt + 1
        ctl := .idle, response := some ⟨.payloadTooLong, 0⟩ } ∧
    exec .lnkSync s = .next
      { s with
        rxv := false, elapsed := 0
        txsa := s.laddr, txda := s.daddr, txseq := s.seqcnt, seqcnt := s.seqcnt + 1
        ctl := .idle, response := some ⟨.payloadTooLong, 0⟩ }

/-- R45, R112, R145: on a closed pipe a send fails with `LINK_IO` at its first write: the frame is encoded and the
counter has advanced, and the prefix of the bytes of that write that the environment chose is in `TXBUF`. That a write
to a closed pipe may leave bytes is the model's reading (assumption log 10). -/
def Obligations.SendOnAClosedPipeFails : Prop :=
  ∀ (s : State) (b : List Byte), s.opened = false → Ready s → s.plen.toNat ≤ 249 → buffersWf s = true →
    sendFrame s = some b →
    let n := min ((nextTurn s).fail.getD 0) (if s.txdly = 0 then flen s else 1)
    let done := fun t : State =>
      { s with
        txsa := s.laddr, txda := s.daddr, txseq := s.seqcnt, seqcnt := s.seqcnt + 1
        fbuf := t.fbuf, fblen := s.plen + 6, crc := crcAcc (b.take (s.plen.toNat + 4))
        rxq := s.rxq ++ (nextTurn s).arrive
        txbuf := s.txbuf.drop (nextTurn s).drain ++ b.take n
        wire := s.wire ++ s.txbuf.take (nextTurn s).drain
        env := envAfter 1 s, ctl := .idle, response := some ⟨.linkIo, 0⟩ }
    (∃ t, exec .lnkSend s = .next t ∧ t = done t ∧ Holds t.fbuf b s.fbuf) ∧
    (∃ t, exec .lnkSync s = .next t ∧ t = { done t with rxv := false, elapsed := 0 } ∧ Holds t.fbuf b s.fbuf)

/-- R112, R113: on an open pipe, with an environment in which nothing fails but which may deliver and drain bytes at
every interleaving point, `LNK.SEND` ends with `OK` and the whole frame is on the line, after everything given to the
pipe before; with or without the per-byte delay. -/
def Obligations.SendPutsTheFrameOnTheLine : Prop :=
  decode 0x00000032 = .ok .lnkSend ∧
  ∀ (s : State) (b : List Byte), s.opened = true → Benign s → s.plen.toNat ≤ 249 → buffersWf s = true →
    sendFrame s = some b →
    ∃ t, exec .lnkSend s = .next t ∧
      t = { s with
        txsa := s.laddr, txda := s.daddr, txseq := s.seqcnt, seqcnt := s.seqcnt + 1
        fbuf := t.fbuf, fblen := s.plen + 6, crc := crcAcc (b.take (s.plen.toNat + 4))
        rxq := s.rxq ++ arrivedIn (sendTurns s) s
        wire := s.wire ++ s.txbuf ++ b, txbuf := []
        env := envAfter (sendTurns s) s, ctl := .idle, response := some ⟨.ok, 0⟩ } ∧
      Holds t.fbuf b s.fbuf

/-- R112, R59: in every environment, failing or not: when `LNK.SEND` has ended with `OK`, the whole frame is on the
line, after everything given to the pipe before, and nothing is left unflushed. (For the step that takes the command;
a send carried on in a later step is left out.) -/
def Obligations.SendAnsweredOkMeansOnTheLine : Prop :=
  ∀ (s t : State), s.plen.toNat ≤ 249 → buffersWf s = true → exec .lnkSend s = .next t → Answered .ok t →
    ∃ b, sendFrame s = some b ∧ t.wire = s.wire ++ s.txbuf ++ b ∧ t.txbuf = []

/-- R45, R58: in every environment without a reset, wherever `LNK.SEND` stops or pauses, what it has given to the pipe
is a prefix of its frame, in order, after what was given before. (For the step that takes the command; the part of a
send carried on in a later step is left out.) -/
def Obligations.SendGivesAPrefixOfTheFrame : Prop :=
  ∀ (s t : State) (b : List Byte), s.plen.toNat ≤ 249 → buffersWf s = true → NoResetInput s →
    sendFrame s = some b → exec .lnkSend s = .next t →
    ∃ n, sentSoFar t = sentSoFar s ++ b.take n

/-! ## The link controller: polling -/

/-- R114 (lines 1 to 6, corner case (e)): with fewer than `FLEN` bytes a poll ends with `NOFRAME` and consumes
nothing; on a closed pipe, or where `PipeAvail` fails, it ends with `LINK_IO`; `RXV` falls in both. -/
def Obligations.PollWithoutAFrameConsumesNothing : Prop :=
  decode 0x00000033 = .ok .lnkPoll ∧
  ∀ s : State, Ready s →
    let turn := nextTurn s
    let done := fun rc : ResultCode =>
      { s with
        rxv := false, rxq := s.rxq ++ turn.arrive, txbuf := s.txbuf.drop turn.drain
        wire := s.wire ++ s.txbuf.take turn.drain
        env := envAfter 1 s, ctl := .idle, response := some ⟨rc, 0⟩ }
    (s.opened = true → turn.fail = none → (s.rxq ++ turn.arrive).length < s.plen.toNat + 6 →
      exec .lnkPoll s = .next (done .noFrame)) ∧
    ((s.opened = false ∨ turn.fail ≠ none) → exec .lnkPoll s = .next (done .linkIo))

/-- R114 (lines 7 to 15): a frame at the head of `RXQ` whose checksum is right and whose destination is `LADDR` is
delivered, and one frame only is consumed. -/
def Obligations.PollDeliversAFrameForThisNode : Prop :=
  ∀ (s : State) (b rest : List Byte) (f : Frame) (c : Half),
    s.opened = true → Quiet s → buffersWf s = true → s.plen.toNat ≤ 249 →
    s.rxq = b ++ rest → dec b s.plen.toNat = .ok (f, c) → f.da = s.laddr →
    ∃ t, exec .lnkPoll s = .next t ∧
      t = { s with
        rxfc := f.fc, rxseq := f.seq, rxsa := f.sa, rxda := f.da, rxfcs := c, rxpay := t.rxpay, rxv := true
        fbuf := t.fbuf, fblen := s.plen + 6, crc := crcAcc (b.take (s.plen.toNat + 4)), rxq := rest
        ctl := .idle, response := some ⟨.ok, 0⟩ } ∧
      Holds t.rxpay f.payload s.rxpay ∧ Holds t.fbuf b s.fbuf

/-- R114 (line 10, corner cases (a) and (b)): a damaged frame, whatever its destination, ends a poll with
`FCS_MISMATCH`: its bytes are gone from `RXQ` and held in `FBUF`, the RX registers keep their values, and the frames
after it stay. -/
def Obligations.PollStopsAtADamagedFrame : Prop :=
  ∀ (s : State) (b rest : List Byte),
    s.opened = true → Quiet s → buffersWf s = true → s.plen.toNat ≤ 249 →
    s.rxq = b ++ rest → dec b s.plen.toNat = .error .fcsMismatch →
    ∃ t, exec .lnkPoll s = .next t ∧
      t = { s with
        rxv := false, fbuf := t.fbuf, fblen := s.plen + 6, crc := crcAcc (b.take (s.plen.toNat + 4)), rxq := rest
        ctl := .idle, response := some ⟨.fcsMismatch, 0⟩ } ∧
      Holds t.fbuf b s.fbuf

/-- R114 (line 16, corner case (c)): a frame for another node is skipped: the poll goes on exactly as if it had been
given with that frame gone from `RXQ` and held in `FBUF`. (That either side answers, the statements about a poll that
ends say.) -/
def Obligations.PollSkipsAFrameForAnotherNode : Prop :=
  ∀ (s : State) (b rest : List Byte) (f : Frame) (c : Half),
    s.opened = true → Quiet s → s.rxq = b ++ rest → dec b s.plen.toNat = .ok (f, c) → f.da ≠ s.laddr →
    exec .lnkPoll s = exec .lnkPoll
      { s with
        fbuf := Memory.writeAll s.fbuf 0 b, fblen := s.plen + 6
        crc := crcAcc (b.take (s.plen.toNat + 4)), rxq := rest }

/-- R114, with the run that R171 says a model must admit (in the model's own form of an environment, assumption log 3
and 4): a poll need not end. For every number `n` of laps: if the environment delivers a frame for another node
whenever the poll takes one, `n` times, and what it does then is not yet known, the poll has taken `n` frames, is
still in progress with no response, and is in the same shape for further laps. -/
def Obligations.PollCanBeKeptGoingForEver : Prop :=
  ∀ (n : Nat) (s : State) (b : List Byte) (f : Frame) (c : Half),
    s.ctl = .run (.avail .own) → s.response = none → s.opened = true → s.params.rxDepth = none →
    s.rxq = b → dec b s.plen.toNat = .ok (f, c) → f.da ≠ s.laddr →
    s.env = { turns := (List.replicate n [{}, { arrive := b }]).flatten, openEnded := true } →
    ∃ t, step s = .next t ∧ t.ctl = .run (.avail .own) ∧ t.response = none ∧ t.opened = true ∧
      t.params = s.params ∧ t.rxq = b ∧ t.plen = s.plen ∧ t.laddr = s.laddr ∧
      t.env = { turns := [], openEnded := true }

/-! ## The link controller: sending and waiting -/

/-- R115 (line 3, corner case (g)): without REQ_ACK, `LNK.SYNC` sends as `LNK.SEND` does, looks for no reply, and ends
with `OK` and `val` = 0. -/
def Obligations.SyncWithoutReqAckOnlySends : Prop :=
  decode 0x00000034 = .ok .lnkSync ∧
  ∀ (s : State) (b : List Byte), s.opened = true → Benign s → s.plen.toNat ≤ 249 → buffersWf s = true →
    sendFrame s = some b → s.txfc.getLsbD 1 = false →
    ∃ t, exec .lnkSync s = .next t ∧
      t = { s with
        rxv := false, elapsed := 0
        txsa := s.laddr, txda := s.daddr, txseq := s.seqcnt, seqcnt := s.seqcnt + 1
        fbuf := t.fbuf, fblen := s.plen + 6, crc := crcAcc (b.take (s.plen.toNat + 4))
        rxq := s.rxq ++ arrivedIn (sendTurns s) s
        wire := s.wire ++ s.txbuf ++ b, txbuf := []
        env := envAfter (sendTurns s) s, ctl := .idle, response := some ⟨.ok, 0⟩ } ∧
      Holds t.fbuf b s.fbuf

/-- R115 (lines 4 to 9, with the counts the spec marks as its own inference): with REQ_ACK set and no frame ever
arriving, `LNK.SYNC` makes `TMO div 10 + 2` polls and `TMO div 10 + 1` waits, and fails with `LINK_TIMEOUT` with
`ELAPSED = 10 * (TMO div 10 + 1)`; the frame is on the line. -/
def Obligations.SyncTimesOut : Prop :=
  ∀ (s : State) (b : List Byte), s.opened = true → Benign s → (∀ turn ∈ s.env.turns, turn.arrive = []) →
    s.plen.toNat ≤ 249 → buffersWf s = true → sendFrame s = some b → s.txfc.getLsbD 1 = true →
    s.rxq.length < s.plen.toNat + 6 →
    ∃ t, exec .lnkSync s = .next t ∧
      t = { s with
        rxv := false, elapsed := BitVec.ofNat 17 (10 * (s.tmo.toNat / 10 + 1))
        txsa := s.laddr, txda := s.daddr, txseq := s.seqcnt, seqcnt := s.seqcnt + 1
        fbuf := t.fbuf, fblen := s.plen + 6, crc := crcAcc (b.take (s.plen.toNat + 4))
        wire := s.wire ++ s.txbuf ++ b, txbuf := []
        env := envAfter (sendTurns s + (s.tmo.toNat / 10 + 2) + (s.tmo.toNat / 10 + 1)) s
        ctl := .idle, response := some ⟨.linkTimeout, 0⟩ } ∧
      Holds t.fbuf b s.fbuf

/-- R115 (corner case (b)), R116, R167: a frame for this node that was already waiting is taken as the reply by the
first poll, at `ELAPSED` = 0, whatever its sequence number with `REPLY_MATCH = NONE`, and if its sequence number is
the request's with `REPLY_MATCH = SEQ`. -/
def Obligations.SyncTakesAWaitingFrameAsTheReply : Prop :=
  ∀ (s : State) (sentFrame b rest : List Byte) (f : Frame) (c : Half),
    s.opened = true → Quiet s → s.plen.toNat ≤ 249 → buffersWf s = true →
    sendFrame s = some sentFrame → s.txfc.getLsbD 1 = true →
    s.rxq = b ++ rest → dec b s.plen.toNat = .ok (f, c) → f.da = s.laddr →
    (s.params.replyMatch = .any ∨ f.seq = s.seqcnt) →
    ∃ t, exec .lnkSync s = .next t ∧
      t = { s with
        rxfc := f.fc, rxseq := f.seq, rxsa := f.sa, rxda := f.da, rxfcs := c, rxpay := t.rxpay, rxv := true
        elapsed := 0, txsa := s.laddr, txda := s.daddr, txseq := s.seqcnt, seqcnt := s.seqcnt + 1
        fbuf := t.fbuf, fblen := s.plen + 6, crc := crcAcc (b.take (s.plen.toNat + 4)), rxq := rest
        wire := s.wire ++ s.txbuf ++ sentFrame, txbuf := []
        ctl := .idle, response := some ⟨.ok, 1⟩ } ∧
      Holds t.rxpay f.payload s.rxpay ∧ Holds t.fbuf b s.fbuf

/-- R115 (and the spec's inference R144): a reply that arrives during the `k`-th wait, up to the last one the timeout
allows, is returned by the poll after that wait, at `ELAPSED = 10 * k`: a reply found by the last poll wins over the
timeout. (For a reply that arrives whole, `RXQ` empty before it, and `TXDLY` = 0.) -/
def Obligations.SyncReturnsAReplyOfTheKthWait : Prop :=
  ∀ (s : State) (k : Nat) (sentFrame b : List Byte) (f : Frame) (c : Half),
    s.opened = true → s.params.rxDepth = none → s.txdly = 0 → s.plen.toNat ≤ 249 → buffersWf s = true →
    sendFrame s = some sentFrame → s.txfc.getLsbD 1 = true → s.rxq = [] →
    1 ≤ k → k ≤ s.tmo.toNat / 10 + 1 →
    s.env = { turns := List.replicate (2 * k + 1) {} ++ [{ arrive := b }], openEnded := false } →
    dec b s.plen.toNat = .ok (f, c) → f.da = s.laddr →
    (s.params.replyMatch = .any ∨ f.seq = s.seqcnt) →
    ∃ t, exec .lnkSync s = .next t ∧
      t = { s with
        rxfc := f.fc, rxseq := f.seq, rxsa := f.sa, rxda := f.da, rxfcs := c, rxpay := t.rxpay, rxv := true
        elapsed := BitVec.ofNat 17 (10 * k)
        txsa := s.laddr, txda := s.daddr, txseq := s.seqcnt, seqcnt := s.seqcnt + 1
        fbuf := t.fbuf, fblen := s.plen + 6, crc := crcAcc (b.take (s.plen.toNat + 4))
        wire := s.wire ++ s.txbuf ++ sentFrame, txbuf := []
        env := { turns := [], openEnded := false }
        ctl := .idle, response := some ⟨.ok, 1⟩ } ∧
      Holds t.rxpay f.payload s.rxpay ∧ Holds t.fbuf b s.fbuf

/-- R116: with `REPLY_MATCH = SEQ`, a frame for this node with another sequence number is dropped and the wait goes on
to the timeout; the dropped frame stays in the RX registers with `RXV` = 0. -/
def Obligations.SeqMatchDropsAnotherReply : Prop :=
  ∀ (s : State) (sentFrame b : List Byte) (f : Frame) (c : Half),
    s.opened = true → Quiet s → s.plen.toNat ≤ 249 → buffersWf s = true →
    sendFrame s = some sentFrame → s.txfc.getLsbD 1 = true →
    s.rxq = b → dec b s.plen.toNat = .ok (f, c) → f.da = s.laddr →
    s.params.replyMatch = .seq → f.seq ≠ s.seqcnt →
    ∃ t, exec .lnkSync s = .next t ∧
      t = { s with
        rxfc := f.fc, rxseq := f.seq, rxsa := f.sa, rxda := f.da, rxfcs := c, rxpay := t.rxpay, rxv := false
        elapsed := BitVec.ofNat 17 (10 * (s.tmo.toNat / 10 + 1))
        txsa := s.laddr, txda := s.daddr, txseq := s.seqcnt, seqcnt := s.seqcnt + 1
        fbuf := t.fbuf, fblen := s.plen + 6, crc := crcAcc (b.take (s.plen.toNat + 4)), rxq := []
        wire := s.wire ++ s.txbuf ++ sentFrame, txbuf := []
        ctl := .idle, response := some ⟨.linkTimeout, 0⟩ } ∧
      Holds t.rxpay f.payload s.rxpay ∧ Holds t.fbuf b s.fbuf

/-! ## The whole machine -/

/-- The state right after reset satisfies the invariant. -/
def Obligations.ResetSatisfiesInv : Prop := BlockInv State.reset

/-- Every step keeps the invariant, in every environment. -/
def Obligations.EveryStepKeepsInv : Prop :=
  ∀ s t : State, BlockInv s → step s = .next t → BlockInv t

/-- From every state of the invariant, a step answers a next state, unless bytes arrive beyond a finite `RX_DEPTH`: no
step faults (20_memory.md R44: a short read cannot occur, the spec's own inference) and no other step is refused
(assumption log 9 and 12). -/
def Obligations.EveryStepOfInvAnswers : Prop :=
  ∀ s : State, BlockInv s → (∃ t, step s = .next t) ∨ (s.params.rxDepth ≠ none ∧ step s = .refused .rxOverflow)

/-- R114, R115 (the spec's own inference, R117): a command ends. From a state of the invariant whose environment is
known to its end, and so appends only finitely many bytes, every command that answers a next state has ended there,
`PHASE` being `IDLE`; and it has given its response if the reset input was not asserted. -/
def Obligations.EveryCommandEnds : Prop :=
  ∀ (i : Instr) (s t : State), BlockInv s → s.ctl = .idle → s.env.openEnded = false → exec i s = .next t →
    phaseOf t = .idle ∧ (NoResetInput s → t.response ≠ none)

/-- R43, R162: `WIRE` only grows: no step, whatever happens in it, takes a byte back or changes one. -/
def Obligations.WireOnlyGrows : Prop :=
  ∀ s t : State, step s = .next t → ∃ bs, t.wire = s.wire ++ bs

/-- R15, R118: each send uses one sequence number, the old `SEQCNT`, also if it fails, and leaves the next one modulo
256; no other command changes `SEQCNT` but `SYS.RESET` and a write to it. The number is used up where the send begins:
a later step of a command in progress changes neither `SEQCNT` nor `TXSEQ`. -/
def Obligations.SeqcntAdvancesOncePerSend : Prop :=
  (∀ (i : Instr) (s t : State), NoResetInput s → exec i s = .next t →
    ((i = .lnkSend ∨ i = .lnkSync) → t.seqcnt = s.seqcnt + 1 ∧ t.txseq = s.seqcnt) ∧
    (i ≠ .lnkSend → i ≠ .lnkSync → i ≠ .sysReset → (∀ v, i ≠ .regWr 0x02 v) → t.seqcnt = s.seqcnt)) ∧
  ∀ s t : State, NoResetInput s → s.ctl ≠ .idle → step s = .next t → t.seqcnt = s.seqcnt ∧ t.txseq = s.txseq

/-- R22, R23, R56: the configuration registers, `TXFC`, `TXLEN` and `TXPAY` are changed by no command but `SYS.RESET`,
`REG.WR` and `TXP.WR`, and by no later step of a command in progress. -/
def Obligations.CommandsKeepTheHostsRegisters : Prop :=
  let kept := fun s t : State =>
    t.laddr = s.laddr ∧ t.plen = s.plen ∧ t.daddr = s.daddr ∧ t.tmo = s.tmo ∧ t.txdly = s.txdly ∧
    t.txfc = s.txfc ∧ t.txlen = s.txlen ∧ t.txpay = s.txpay
  (∀ (i : Instr) (s t : State), NoResetInput s → exec i s = .next t →
    i ≠ .sysReset → (∀ r v, i ≠ .regWr r v) → (∀ j v, i ≠ .txpWr j v) → kept s t) ∧
  ∀ s t : State, NoResetInput s → s.ctl ≠ .idle → step s = .next t → kept s t

/-- R24: the RX frame registers and `RXPAY` are written only when a frame is delivered: a command that ends with `RXV`
= 0, or that is none of `FRM.DEC`, `LNK.POLL`, `LNK.SYNC` and `SYS.RESET`, leaves them all as they were; and so does
every later step of a command in progress. (With `REPLY_MATCH = SEQ` a dropped reply stays in them with `RXV` = 0,
R116; so this is for `NONE`.) -/
def Obligations.RxRegistersChangeOnlyOnDelivery : Prop :=
  (∀ (i : Instr) (s t : State), NoResetInput s → s.params.replyMatch = .any → exec i s = .next t →
    i ≠ .sysReset → (t.rxv = false ∨ (i ≠ .frmDec ∧ i ≠ .lnkPoll ∧ i ≠ .lnkSync)) →
    rxView t = rxView s) ∧
  ∀ (i : Instr) (s t : State), NoResetInput s → s.params.replyMatch = .any → commandOf s.ctl = some i →
    step s = .next t → (t.rxv = false ∨ (i ≠ .lnkPoll ∧ i ≠ .lnkSync)) → rxView t = rxView s

/-- R21, R52, with the model's reading of where the environment acts (assumption log 3): the commands that call no
pipe primitive take no turn of the environment and leave the pipe alone (`SYS.RESET`, which closes it, apart); and
`ELAPSED` is changed by `LNK.SYNC` and reset only, in the step that takes the command and in every later step of it.
-/
def Obligations.AtomicCommandsLeaveThePipe : Prop :=
  (∀ (i : Instr) (s t : State), isLink i = false → i ≠ .sysReset → exec i s = .next t →
    t.opened = s.opened ∧ t.rxq = s.rxq ∧ t.txbuf = s.txbuf ∧ t.wire = s.wire ∧ t.env = s.env) ∧
  (∀ (i : Instr) (s t : State), NoResetInput s → i ≠ .sysReset → i ≠ .lnkSync → exec i s = .next t →
    t.elapsed = s.elapsed) ∧
  ∀ (i : Instr) (s t : State), NoResetInput s → commandOf s.ctl = some i → i ≠ .lnkSync → step s = .next t →
    t.elapsed = s.elapsed

/-- R72, R141: each command answers only with the result codes of the table, in their numeric values, and `val` is 0
with every failure code (those of 0x10 and above); the same for the answer that a later step of a command in progress
gives. -/
def Obligations.OnlyTheListedResultCodes : Prop :=
  (rcByte .ok = 0x00 ∧ rcByte .noFrame = 0x01 ∧ rcByte .lengthMismatch = 0x10 ∧ rcByte .fcsMismatch = 0x11 ∧
    rcByte .payloadTooLong = 0x12 ∧ rcByte .linkIo = 0x20 ∧ rcByte .linkTimeout = 0x21 ∧
    rcByte .illegalCommand = 0x30 ∧ rcByte .illegalOperand = 0x31) ∧
  (∀ (i : Instr) (s t : State) (r : Response), exec i s = .next t → t.response = some r →
    r.rc ∈ codesOf i ∧ (0x10 ≤ (rcByte r.rc).toNat → r.val = 0)) ∧
  ∀ (i : Instr) (s t : State) (r : Response), commandOf s.ctl = some i → s.response = none → step s = .next t →
    t.response = some r → r.rc ∈ codesOf i ∧ (0x10 ≤ (rcByte r.rc).toNat → r.val = 0)
end

