-- ==== Sys2Proof/Laws/Memory.lean ====
section
/-!
SUPPORT. The laws of the byte buffers: what a read gives after a write, that every write keeps the canonical form, and
that canonical buffers with the same bytes are equal.
-/

namespace Sys2Proof.Machine

@[simp] theorem Memory.read_nil (a : Nat) : read [] a = unlistedByte := rfl

theorem Memory.read_cell_append (a b' : Nat) (b : Byte) (m : Memory) :
    read (cell a b ++ m) b' = if b' = a then (if b = unlistedByte then read m a else b) else read m b' := by
  unfold cell
  by_cases hb : b = unlistedByte <;> by_cases h : b' = a <;> simp_all [read]
  intro h'; exact absurd h'.symm h

theorem Memory.read_of_rising {lo : Nat} {m : Memory} (h : rising lo m = true) {a : Nat} (ha : a < lo) :
    read m a = unlistedByte := by
  induction m generalizing lo with
  | nil => rfl
  | cons kv m ih =>
    obtain ⟨k, v⟩ := kv
    simp only [rising, Bool.and_eq_true, decide_eq_true_eq] at h
    have hk : k ≠ a := by omega
    simp only [read, hk, if_false]
    exact ih h.2 (by omega)

theorem Memory.rising_mono {lo lo' : Nat} {m : Memory} (h : rising lo m = true) (hl : lo' ≤ lo) :
    rising lo' m = true := by
  cases m with
  | nil => rfl
  | cons kv m =>
    simp only [rising, Bool.and_eq_true, decide_eq_true_eq] at h ⊢
    exact ⟨⟨by omega, h.1.2⟩, h.2⟩

theorem Memory.rising_cell_append {lo a : Nat} {b : Byte} {m : Memory} (hl : lo ≤ a)
    (h : rising (a + 1) m = true) : rising lo (cell a b ++ m) = true := by
  unfold cell
  split
  · exact rising_mono h (by omega)
  · rename_i hb
    simp [rising, hl, h, hb]

theorem Memory.rising_write {lo a : Nat} {b : Byte} {m : Memory} (h : rising lo m = true) (hl : lo ≤ a) :
    rising lo (write m a b) = true := by
  induction m generalizing lo with
  | nil => simpa [write] using rising_cell_append (b := b) (m := []) hl rfl
  | cons kv m ih =>
    obtain ⟨k, v⟩ := kv
    have h' := h
    simp only [rising, Bool.and_eq_true, decide_eq_true_eq] at h
    simp only [write]
    split
    · refine rising_cell_append hl ?_
      simp only [rising, Bool.and_eq_true, decide_eq_true_eq]
      exact ⟨⟨by omega, h.1.2⟩, h.2⟩
    · split
      · exact rising_cell_append hl (rising_mono h.2 (by omega))
      · simp only [rising, Bool.and_eq_true, decide_eq_true_eq]
        exact ⟨h.1, ih h.2 (by omega)⟩

theorem Memory.below_cell_append {size a : Nat} {b : Byte} {m : Memory} (ha : a < size)
    (h : below size m = true) : below size (cell a b ++ m) = true := by
  unfold cell
  split <;> simp [below, ha, h]

theorem Memory.below_write {size a : Nat} {b : Byte} {m : Memory} (h : below size m = true) (ha : a < size) :
    below size (write m a b) = true := by
  induction m with
  | nil => simpa [write] using below_cell_append (b := b) (m := []) ha rfl
  | cons kv m ih =>
    obtain ⟨k, v⟩ := kv
    have h' := h
    simp only [below, Bool.and_eq_true, decide_eq_true_eq] at h
    simp only [write]
    split
    · exact below_cell_append ha h'
    · split
      · exact below_cell_append ha h.2
      · simp only [below, Bool.and_eq_true, decide_eq_true_eq]
        exact ⟨h.1, ih h.2⟩

/-- A write inside the buffer keeps the canonical form. -/
theorem Memory.wf_write {size a : Nat} {b : Byte} {m : Memory} (h : wf size m = true) (ha : a < size) :
    wf size (write m a b) = true := by
  simp only [wf, Bool.and_eq_true] at h ⊢
  exact ⟨rising_write h.1 (by omega), below_write h.2 ha⟩

/-- A run of writes inside the buffer keeps the canonical form. -/
theorem Memory.wf_writeAll {size : Nat} {bs : List Byte} {m : Memory} {a : Nat} (h : wf size m = true)
    (ha : a + bs.length ≤ size) : wf size (writeAll m a bs) = true := by
  induction bs generalizing m a with
  | nil => exact h
  | cons b bs ih =>
    simp only [List.length_cons] at ha
    exact ih (wf_write h (by omega)) (by omega)

theorem Memory.wf_nil (size : Nat) : wf size [] = true := rfl

theorem Memory.read_write_rising {lo a : Nat} {b : Byte} {m : Memory} (h : rising lo m = true) (j : Nat) :
    read (write m a b) j = if j = a then b else read m j := by
  induction m generalizing lo with
  | nil =>
    have := read_cell_append a j b []
    simp only [List.append_nil, read_nil] at this
    by_cases hb : b = unlistedByte <;> simp_all [write]
  | cons kv m ih =>
    obtain ⟨k, v⟩ := kv
    simp only [rising, Bool.and_eq_true, decide_eq_true_eq] at h
    simp only [write]
    split
    · rename_i hak
      rw [read_cell_append]
      have : read ((k, v) :: m) a = unlistedByte := by
        refine read_of_rising (lo := k) ?_ hak
        simp only [rising, Bool.and_eq_true, decide_eq_true_eq]
        exact ⟨⟨by omega, h.1.2⟩, h.2⟩
      by_cases hj : j = a <;> by_cases hb : b = unlistedByte <;> simp_all
    · split
      · rename_i hak
        subst hak
        rw [read_cell_append]
        have : read m a = unlistedByte := read_of_rising h.2 (by omega)
        by_cases hj : j = a
        · subst hj; by_cases hb : b = unlistedByte <;> simp_all
        · have : a ≠ j := fun h => hj h.symm
          simp [hj, read, this]
      · rename_i hak hka
        by_cases hjk : k = j
        · subst hjk
          have : ¬ k = a := fun h => hka h.symm
          simp [read, this]
        · simp only [read, hjk, if_false]
          exact ih h.2

/-- A read after a write: the byte written at its index, every other byte as before. -/
theorem Memory.read_write {size a : Nat} {b : Byte} {m : Memory} (h : wf size m = true) (j : Nat) :
    read (write m a b) j = if j = a then b else read m j := by
  simp only [wf, Bool.and_eq_true] at h
  exact read_write_rising h.1 j

theorem Memory.read_writeAll_rising {bs : List Byte} {m : Memory} (h : rising 0 m = true) (a j : Nat) :
    read (writeAll m a bs) j =
      if a ≤ j ∧ j < a + bs.length then bs.getD (j - a) 0 else read m j := by
  induction bs generalizing m a with
  | nil => simp [writeAll]
  | cons b bs ih =>
    simp only [writeAll]
    rw [ih (rising_write h (by omega)), read_write_rising h]
    simp only [List.length_cons]
    by_cases hj : j = a
    · subst hj
      simp
    · by_cases h1 : a + 1 ≤ j ∧ j < a + 1 + bs.length
      · have h2 : a ≤ j ∧ j < a + (bs.length + 1) := by omega
        rw [if_pos h1, if_pos h2]
        have : j - a = (j - (a + 1)) + 1 := by omega
        rw [this, List.getD_cons_succ]
      · have h2 : ¬ (a ≤ j ∧ j < a + (bs.length + 1)) := by omega
        rw [if_neg h1, if_neg h2, if_neg hj]

/-- A read after a run of writes: the bytes written at their indices, every other byte as before. -/
theorem Memory.read_writeAll {size : Nat} {bs : List Byte} {m : Memory} (h : wf size m = true) (a j : Nat) :
    read (writeAll m a bs) j =
      if a ≤ j ∧ j < a + bs.length then bs.getD (j - a) 0 else read m j := by
  simp only [wf, Bool.and_eq_true] at h
  exact read_writeAll_rising h.1 a j

@[simp] theorem Memory.length_readAll (m : Memory) (a n : Nat) : (readAll m a n).length = n := by
  induction n generalizing a with
  | zero => rfl
  | succ n ih => simp [readAll, ih]

theorem Memory.getD_readAll {m : Memory} {a n i : Nat} (hi : i < n) : (readAll m a n).getD i 0 = read m (a + i) := by
  induction n generalizing a i with
  | zero => omega
  | succ n ih =>
    cases i with
    | zero => simp [readAll]
    | succ i =>
      simp only [readAll, List.getD_cons_succ]
      rw [ih (by omega)]
      congr 1
      omega

/-- Reading back what a run of writes stored. -/
theorem Memory.readAll_writeAll {size : Nat} {bs : List Byte} {m : Memory} (h : wf size m = true) (a : Nat) :
    readAll (writeAll m a bs) a bs.length = bs := by
  apply List.ext_getElem
  · simp
  · intro i h1 h2
    have e1 := getD_readAll (m := writeAll m a bs) (a := a) (n := bs.length) (i := i) h2
    rw [read_writeAll h] at e1
    rw [if_pos (by omega)] at e1
    simp only [Nat.add_sub_cancel_left] at e1
    rw [List.getD_eq_getElem _ _ h1, List.getD_eq_getElem _ _ h2] at e1
    exact e1

theorem Memory.ext_rising {lo : Nat} {m m' : Memory} (h : rising lo m = true) (h' : rising lo m' = true)
    (he : ∀ a, read m a = read m' a) : m = m' := by
  induction m generalizing lo m' with
  | nil =>
    cases m' with
    | nil => rfl
    | cons kv m' =>
      obtain ⟨k, v⟩ := kv
      simp only [rising, Bool.and_eq_true, bne_iff_ne] at h'
      have := he k
      simp only [read, if_true] at this
      exact absurd this.symm h'.1.2
  | cons kv m ih =>
    obtain ⟨k, v⟩ := kv
    cases m' with
    | nil =>
      simp only [rising, Bool.and_eq_true, bne_iff_ne] at h
      have := he k
      simp only [read, if_true] at this
      exact absurd this h.1.2
    | cons kv' m' =>
      obtain ⟨k', v'⟩ := kv'
      have hk0 := h; have hk0' := h'
      simp only [rising, Bool.and_eq_true, bne_iff_ne, decide_eq_true_eq] at h h'
      have hk : k = k' := by
        rcases Nat.lt_trichotomy k k' with hlt | heq | hgt
        · have h1 := he k
          have h2 : read ((k', v') :: m') k = unlistedByte := by
            refine read_of_rising (lo := k') ?_ hlt
            simp only [rising, Bool.and_eq_true, bne_iff_ne, decide_eq_true_eq]
            exact ⟨⟨Nat.le_refl _, h'.1.2⟩, h'.2⟩
          rw [h2] at h1
          simp only [read, if_true] at h1
          exact absurd h1 h.1.2
        · exact heq
        · have h1 := he k'
          have h2 : read ((k, v) :: m) k' = unlistedByte := by
            refine read_of_rising (lo := k) ?_ hgt
            simp only [rising, Bool.and_eq_true, bne_iff_ne, decide_eq_true_eq]
            exact ⟨⟨Nat.le_refl _, h.1.2⟩, h.2⟩
          rw [h2] at h1
          simp only [read, if_true] at h1
          exact absurd h1.symm h'.1.2
      subst hk
      have hv : v = v' := by simpa [read] using he k
      subst hv
      congr 1
      refine ih h.2 h'.2 fun a => ?_
      by_cases ha : k = a
      · subst ha
        rw [read_of_rising h.2 (by omega), read_of_rising h'.2 (by omega)]
      · simpa [read, ha] using he a

/-- Canonical buffers with the same bytes are the same data. -/
theorem Memory.ext_wf {size : Nat} {m m' : Memory} (h : wf size m = true) (h' : wf size m' = true)
    (he : ∀ a, read m a = read m' a) : m = m' := by
  simp only [wf, Bool.and_eq_true] at h h'
  exact ext_rising h.1 h'.1 he

end Sys2Proof.Machine
end

