-- ==== Sys2Proof/Laws/State.lean ====
section
/-!
SUPPORT. What each named update of the state leaves in each field, and what `FLEN` is after it: one lemma per field per
update, so that no later proof unfolds a record update.
-/

namespace Sys2Proof.Machine

/-! ### `respond` -/

@[simp] theorem respond_laddr (rc : ResultCode) (v : Word) (s : State) : (respond rc v s).laddr = s.laddr := rfl
@[simp] theorem respond_plen (rc : ResultCode) (v : Word) (s : State) : (respond rc v s).plen = s.plen := rfl
@[simp] theorem respond_seqcnt (rc : ResultCode) (v : Word) (s : State) : (respond rc v s).seqcnt = s.seqcnt := rfl
@[simp] theorem respond_txdly (rc : ResultCode) (v : Word) (s : State) : (respond rc v s).txdly = s.txdly := rfl
@[simp] theorem respond_tmo (rc : ResultCode) (v : Word) (s : State) : (respond rc v s).tmo = s.tmo := rfl
@[simp] theorem respond_daddr (rc : ResultCode) (v : Word) (s : State) : (respond rc v s).daddr = s.daddr := rfl
@[simp] theorem respond_opened (rc : ResultCode) (v : Word) (s : State) : (respond rc v s).opened = s.opened := rfl
@[simp] theorem respond_rxv (rc : ResultCode) (v : Word) (s : State) : (respond rc v s).rxv = s.rxv := rfl
@[simp] theorem respond_crc (rc : ResultCode) (v : Word) (s : State) : (respond rc v s).crc = s.crc := rfl
@[simp] theorem respond_elapsed (rc : ResultCode) (v : Word) (s : State) : (respond rc v s).elapsed = s.elapsed := rfl
@[simp] theorem respond_txfc (rc : ResultCode) (v : Word) (s : State) : (respond rc v s).txfc = s.txfc := rfl
@[simp] theorem respond_txseq (rc : ResultCode) (v : Word) (s : State) : (respond rc v s).txseq = s.txseq := rfl
@[simp] theorem respond_txsa (rc : ResultCode) (v : Word) (s : State) : (respond rc v s).txsa = s.txsa := rfl
@[simp] theorem respond_txda (rc : ResultCode) (v : Word) (s : State) : (respond rc v s).txda = s.txda := rfl
@[simp] theorem respond_txlen (rc : ResultCode) (v : Word) (s : State) : (respond rc v s).txlen = s.txlen := rfl
@[simp] theorem respond_rxfc (rc : ResultCode) (v : Word) (s : State) : (respond rc v s).rxfc = s.rxfc := rfl
@[simp] theorem respond_rxseq (rc : ResultCode) (v : Word) (s : State) : (respond rc v s).rxseq = s.rxseq := rfl
@[simp] theorem respond_rxsa (rc : ResultCode) (v : Word) (s : State) : (respond rc v s).rxsa = s.rxsa := rfl
@[simp] theorem respond_rxda (rc : ResultCode) (v : Word) (s : State) : (respond rc v s).rxda = s.rxda := rfl
@[simp] theorem respond_rxfcs (rc : ResultCode) (v : Word) (s : State) : (respond rc v s).rxfcs = s.rxfcs := rfl
@[simp] theorem respond_fblen (rc : ResultCode) (v : Word) (s : State) : (respond rc v s).fblen = s.fblen := rfl
@[simp] theorem respond_txpay (rc : ResultCode) (v : Word) (s : State) : (respond rc v s).txpay = s.txpay := rfl
@[simp] theorem respond_rxpay (rc : ResultCode) (v : Word) (s : State) : (respond rc v s).rxpay = s.rxpay := rfl
@[simp] theorem respond_fbuf (rc : ResultCode) (v : Word) (s : State) : (respond rc v s).fbuf = s.fbuf := rfl
@[simp] theorem respond_ctl (rc : ResultCode) (v : Word) (s : State) : (respond rc v s).ctl = .idle := rfl
@[simp] theorem respond_rxq (rc : ResultCode) (v : Word) (s : State) : (respond rc v s).rxq = s.rxq := rfl
@[simp] theorem respond_txbuf (rc : ResultCode) (v : Word) (s : State) : (respond rc v s).txbuf = s.txbuf := rfl
@[simp] theorem respond_wire (rc : ResultCode) (v : Word) (s : State) : (respond rc v s).wire = s.wire := rfl
@[simp] theorem respond_script (rc : ResultCode) (v : Word) (s : State) : (respond rc v s).script = s.script := rfl
@[simp] theorem respond_response (rc : ResultCode) (v : Word) (s : State) : (respond rc v s).response = some ⟨rc, v⟩ := rfl
@[simp] theorem respond_env (rc : ResultCode) (v : Word) (s : State) : (respond rc v s).env = s.env := rfl
@[simp] theorem respond_params (rc : ResultCode) (v : Word) (s : State) : (respond rc v s).params = s.params := rfl
@[simp] theorem respond_flen (rc : ResultCode) (v : Word) (s : State) : flen (respond rc v s) = flen s := rfl

/-! ### `setCtl` -/

@[simp] theorem setCtl_laddr (c : Control) (s : State) : (setCtl c s).laddr = s.laddr := rfl
@[simp] theorem setCtl_plen (c : Control) (s : State) : (setCtl c s).plen = s.plen := rfl
@[simp] theorem setCtl_seqcnt (c : Control) (s : State) : (setCtl c s).seqcnt = s.seqcnt := rfl
@[simp] theorem setCtl_txdly (c : Control) (s : State) : (setCtl c s).txdly = s.txdly := rfl
@[simp] theorem setCtl_tmo (c : Control) (s : State) : (setCtl c s).tmo = s.tmo := rfl
@[simp] theorem setCtl_daddr (c : Control) (s : State) : (setCtl c s).daddr = s.daddr := rfl
@[simp] theorem setCtl_opened (c : Control) (s : State) : (setCtl c s).opened = s.opened := rfl
@[simp] theorem setCtl_rxv (c : Control) (s : State) : (setCtl c s).rxv = s.rxv := rfl
@[simp] theorem setCtl_crc (c : Control) (s : State) : (setCtl c s).crc = s.crc := rfl
@[simp] theorem setCtl_elapsed (c : Control) (s : State) : (setCtl c s).elapsed = s.elapsed := rfl
@[simp] theorem setCtl_txfc (c : Control) (s : State) : (setCtl c s).txfc = s.txfc := rfl
@[simp] theorem setCtl_txseq (c : Control) (s : State) : (setCtl c s).txseq = s.txseq := rfl
@[simp] theorem setCtl_txsa (c : Control) (s : State) : (setCtl c s).txsa = s.txsa := rfl
@[simp] theorem setCtl_txda (c : Control) (s : State) : (setCtl c s).txda = s.txda := rfl
@[simp] theorem setCtl_txlen (c : Control) (s : State) : (setCtl c s).txlen = s.txlen := rfl
@[simp] theorem setCtl_rxfc (c : Control) (s : State) : (setCtl c s).rxfc = s.rxfc := rfl
@[simp] theorem setCtl_rxseq (c : Control) (s : State) : (setCtl c s).rxseq = s.rxseq := rfl
@[simp] theorem setCtl_rxsa (c : Control) (s : State) : (setCtl c s).rxsa = s.rxsa := rfl
@[simp] theorem setCtl_rxda (c : Control) (s : State) : (setCtl c s).rxda = s.rxda := rfl
@[simp] theorem setCtl_rxfcs (c : Control) (s : State) : (setCtl c s).rxfcs = s.rxfcs := rfl
@[simp] theorem setCtl_fblen (c : Control) (s : State) : (setCtl c s).fblen = s.fblen := rfl
@[simp] theorem setCtl_txpay (c : Control) (s : State) : (setCtl c s).txpay = s.txpay := rfl
@[simp] theorem setCtl_rxpay (c : Control) (s : State) : (setCtl c s).rxpay = s.rxpay := rfl
@[simp] theorem setCtl_fbuf (c : Control) (s : State) : (setCtl c s).fbuf = s.fbuf := rfl
@[simp] theorem setCtl_ctl (c : Control) (s : State) : (setCtl c s).ctl = c := rfl
@[simp] theorem setCtl_rxq (c : Control) (s : State) : (setCtl c s).rxq = s.rxq := rfl
@[simp] theorem setCtl_txbuf (c : Control) (s : State) : (setCtl c s).txbuf = s.txbuf := rfl
@[simp] theorem setCtl_wire (c : Control) (s : State) : (setCtl c s).wire = s.wire := rfl
@[simp] theorem setCtl_script (c : Control) (s : State) : (setCtl c s).script = s.script := rfl
@[simp] theorem setCtl_response (c : Control) (s : State) : (setCtl c s).response = s.response := rfl
@[simp] theorem setCtl_env (c : Control) (s : State) : (setCtl c s).env = s.env := rfl
@[simp] theorem setCtl_params (c : Control) (s : State) : (setCtl c s).params = s.params := rfl
@[simp] theorem setCtl_flen (c : Control) (s : State) : flen (setCtl c s) = flen s := rfl

/-! ### `accept` -/

@[simp] theorem accept_laddr (c : Control) (s : State) : (accept c s).laddr = s.laddr := rfl
@[simp] theorem accept_plen (c : Control) (s : State) : (accept c s).plen = s.plen := rfl
@[simp] theorem accept_seqcnt (c : Control) (s : State) : (accept c s).seqcnt = s.seqcnt := rfl
@[simp] theorem accept_txdly (c : Control) (s : State) : (accept c s).txdly = s.txdly := rfl
@[simp] theorem accept_tmo (c : Control) (s : State) : (accept c s).tmo = s.tmo := rfl
@[simp] theorem accept_daddr (c : Control) (s : State) : (accept c s).daddr = s.daddr := rfl
@[simp] theorem accept_opened (c : Control) (s : State) : (accept c s).opened = s.opened := rfl
@[simp] theorem accept_rxv (c : Control) (s : State) : (accept c s).rxv = s.rxv := rfl
@[simp] theorem accept_crc (c : Control) (s : State) : (accept c s).crc = s.crc := rfl
@[simp] theorem accept_elapsed (c : Control) (s : State) : (accept c s).elapsed = s.elapsed := rfl
@[simp] theorem accept_txfc (c : Control) (s : State) : (accept c s).txfc = s.txfc := rfl
@[simp] theorem accept_txseq (c : Control) (s : State) : (accept c s).txseq = s.txseq := rfl
@[simp] theorem accept_txsa (c : Control) (s : State) : (accept c s).txsa = s.txsa := rfl
@[simp] theorem accept_txda (c : Control) (s : State) : (accept c s).txda = s.txda := rfl
@[simp] theorem accept_txlen (c : Control) (s : State) : (accept c s).txlen = s.txlen := rfl
@[simp] theorem accept_rxfc (c : Control) (s : State) : (accept c s).rxfc = s.rxfc := rfl
@[simp] theorem accept_rxseq (c : Control) (s : State) : (accept c s).rxseq = s.rxseq := rfl
@[simp] theorem accept_rxsa (c : Control) (s : State) : (accept c s).rxsa = s.rxsa := rfl
@[simp] theorem accept_rxda (c : Control) (s : State) : (accept c s).rxda = s.rxda := rfl
@[simp] theorem accept_rxfcs (c : Control) (s : State) : (accept c s).rxfcs = s.rxfcs := rfl
@[simp] theorem accept_fblen (c : Control) (s : State) : (accept c s).fblen = s.fblen := rfl
@[simp] theorem accept_txpay (c : Control) (s : State) : (accept c s).txpay = s.txpay := rfl
@[simp] theorem accept_rxpay (c : Control) (s : State) : (accept c s).rxpay = s.rxpay := rfl
@[simp] theorem accept_fbuf (c : Control) (s : State) : (accept c s).fbuf = s.fbuf := rfl
@[simp] theorem accept_ctl (c : Control) (s : State) : (accept c s).ctl = c := rfl
@[simp] theorem accept_rxq (c : Control) (s : State) : (accept c s).rxq = s.rxq := rfl
@[simp] theorem accept_txbuf (c : Control) (s : State) : (accept c s).txbuf = s.txbuf := rfl
@[simp] theorem accept_wire (c : Control) (s : State) : (accept c s).wire = s.wire := rfl
@[simp] theorem accept_script (c : Control) (s : State) : (accept c s).script = s.script := rfl
@[simp] theorem accept_response (c : Control) (s : State) : (accept c s).response = none := rfl
@[simp] theorem accept_env (c : Control) (s : State) : (accept c s).env = s.env := rfl
@[simp] theorem accept_params (c : Control) (s : State) : (accept c s).params = s.params := rfl
@[simp] theorem accept_flen (c : Control) (s : State) : flen (accept c s) = flen s := rfl

/-! ### `resetBlock` -/

@[simp] theorem resetBlock_laddr (s : State) : (resetBlock s).laddr = 0 := rfl
@[simp] theorem resetBlock_plen (s : State) : (resetBlock s).plen = 8 := rfl
@[simp] theorem resetBlock_seqcnt (s : State) : (resetBlock s).seqcnt = 0 := rfl
@[simp] theorem resetBlock_txdly (s : State) : (resetBlock s).txdly = 0 := rfl
@[simp] theorem resetBlock_tmo (s : State) : (resetBlock s).tmo = 0 := rfl
@[simp] theorem resetBlock_daddr (s : State) : (resetBlock s).daddr = 0 := rfl
@[simp] theorem resetBlock_opened (s : State) : (resetBlock s).opened = false := rfl
@[simp] theorem resetBlock_rxv (s : State) : (resetBlock s).rxv = false := rfl
@[simp] theorem resetBlock_crc (s : State) : (resetBlock s).crc = 0xFFFF := rfl
@[simp] theorem resetBlock_elapsed (s : State) : (resetBlock s).elapsed = 0 := rfl
@[simp] theorem resetBlock_txfc (s : State) : (resetBlock s).txfc = 0 := rfl
@[simp] theorem resetBlock_txseq (s : State) : (resetBlock s).txseq = 0 := rfl
@[simp] theorem resetBlock_txsa (s : State) : (resetBlock s).txsa = 0 := rfl
@[simp] theorem resetBlock_txda (s : State) : (resetBlock s).txda = 0 := rfl
@[simp] theorem resetBlock_txlen (s : State) : (resetBlock s).txlen = 0 := rfl
@[simp] theorem resetBlock_rxfc (s : State) : (resetBlock s).rxfc = 0 := rfl
@[simp] theorem resetBlock_rxseq (s : State) : (resetBlock s).rxseq = 0 := rfl
@[simp] theorem resetBlock_rxsa (s : State) : (resetBlock s).rxsa = 0 := rfl
@[simp] theorem resetBlock_rxda (s : State) : (resetBlock s).rxda = 0 := rfl
@[simp] theorem resetBlock_rxfcs (s : State) : (resetBlock s).rxfcs = 0 := rfl
@[simp] theorem resetBlock_fblen (s : State) : (resetBlock s).fblen = 0 := rfl
@[simp] theorem resetBlock_txpay (s : State) : (resetBlock s).txpay = [] := rfl
@[simp] theorem resetBlock_rxpay (s : State) : (resetBlock s).rxpay = [] := rfl
@[simp] theorem resetBlock_fbuf (s : State) : (resetBlock s).fbuf = [] := rfl
@[simp] theorem resetBlock_ctl (s : State) : (resetBlock s).ctl = .idle := rfl
@[simp] theorem resetBlock_rxq (s : State) : (resetBlock s).rxq = s.rxq := rfl
@[simp] theorem resetBlock_txbuf (s : State) : (resetBlock s).txbuf = [] := rfl
@[simp] theorem resetBlock_wire (s : State) : (resetBlock s).wire = s.wire := rfl
@[simp] theorem resetBlock_script (s : State) : (resetBlock s).script = s.script := rfl
@[simp] theorem resetBlock_response (s : State) : (resetBlock s).response = none := rfl
@[simp] theorem resetBlock_env (s : State) : (resetBlock s).env = s.env := rfl
@[simp] theorem resetBlock_params (s : State) : (resetBlock s).params = s.params := rfl

/-! ### `dropTurn` -/

@[simp] theorem dropTurn_laddr (s : State) : (dropTurn s).laddr = s.laddr := rfl
@[simp] theorem dropTurn_plen (s : State) : (dropTurn s).plen = s.plen := rfl
@[simp] theorem dropTurn_seqcnt (s : State) : (dropTurn s).seqcnt = s.seqcnt := rfl
@[simp] theorem dropTurn_txdly (s : State) : (dropTurn s).txdly = s.txdly := rfl
@[simp] theorem dropTurn_tmo (s : State) : (dropTurn s).tmo = s.tmo := rfl
@[simp] theorem dropTurn_daddr (s : State) : (dropTurn s).daddr = s.daddr := rfl
@[simp] theorem dropTurn_opened (s : State) : (dropTurn s).opened = s.opened := rfl
@[simp] theorem dropTurn_rxv (s : State) : (dropTurn s).rxv = s.rxv := rfl
@[simp] theorem dropTurn_crc (s : State) : (dropTurn s).crc = s.crc := rfl
@[simp] theorem dropTurn_elapsed (s : State) : (dropTurn s).elapsed = s.elapsed := rfl
@[simp] theorem dropTurn_txfc (s : State) : (dropTurn s).txfc = s.txfc := rfl
@[simp] theorem dropTurn_txseq (s : State) : (dropTurn s).txseq = s.txseq := rfl
@[simp] theorem dropTurn_txsa (s : State) : (dropTurn s).txsa = s.txsa := rfl
@[simp] theorem dropTurn_txda (s : State) : (dropTurn s).txda = s.txda := rfl
@[simp] theorem dropTurn_txlen (s : State) : (dropTurn s).txlen = s.txlen := rfl
@[simp] theorem dropTurn_rxfc (s : State) : (dropTurn s).rxfc = s.rxfc := rfl
@[simp] theorem dropTurn_rxseq (s : State) : (dropTurn s).rxseq = s.rxseq := rfl
@[simp] theorem dropTurn_rxsa (s : State) : (dropTurn s).rxsa = s.rxsa := rfl
@[simp] theorem dropTurn_rxda (s : State) : (dropTurn s).rxda = s.rxda := rfl
@[simp] theorem dropTurn_rxfcs (s : State) : (dropTurn s).rxfcs = s.rxfcs := rfl
@[simp] theorem dropTurn_fblen (s : State) : (dropTurn s).fblen = s.fblen := rfl
@[simp] theorem dropTurn_txpay (s : State) : (dropTurn s).txpay = s.txpay := rfl
@[simp] theorem dropTurn_rxpay (s : State) : (dropTurn s).rxpay = s.rxpay := rfl
@[simp] theorem dropTurn_fbuf (s : State) : (dropTurn s).fbuf = s.fbuf := rfl
@[simp] theorem dropTurn_ctl (s : State) : (dropTurn s).ctl = s.ctl := rfl
@[simp] theorem dropTurn_rxq (s : State) : (dropTurn s).rxq = s.rxq := rfl
@[simp] theorem dropTurn_txbuf (s : State) : (dropTurn s).txbuf = s.txbuf := rfl
@[simp] theorem dropTurn_wire (s : State) : (dropTurn s).wire = s.wire := rfl
@[simp] theorem dropTurn_script (s : State) : (dropTurn s).script = s.script := rfl
@[simp] theorem dropTurn_response (s : State) : (dropTurn s).response = s.response := rfl
@[simp] theorem dropTurn_env (s : State) : (dropTurn s).env = { s.env with turns := s.env.turns.tail } := rfl
@[simp] theorem dropTurn_params (s : State) : (dropTurn s).params = s.params := rfl
@[simp] theorem dropTurn_flen (s : State) : flen (dropTurn s) = flen s := rfl

/-! ### `envMoves` -/

@[simp] theorem envMoves_laddr (t : EnvTurn) (s : State) : (envMoves t s).laddr = s.laddr := rfl
@[simp] theorem envMoves_plen (t : EnvTurn) (s : State) : (envMoves t s).plen = s.plen := rfl
@[simp] theorem envMoves_seqcnt (t : EnvTurn) (s : State) : (envMoves t s).seqcnt = s.seqcnt := rfl
@[simp] theorem envMoves_txdly (t : EnvTurn) (s : State) : (envMoves t s).txdly = s.txdly := rfl
@[simp] theorem envMoves_tmo (t : EnvTurn) (s : State) : (envMoves t s).tmo = s.tmo := rfl
@[simp] theorem envMoves_daddr (t : EnvTurn) (s : State) : (envMoves t s).daddr = s.daddr := rfl
@[simp] theorem envMoves_opened (t : EnvTurn) (s : State) : (envMoves t s).opened = s.opened := rfl
@[simp] theorem envMoves_rxv (t : EnvTurn) (s : State) : (envMoves t s).rxv = s.rxv := rfl
@[simp] theorem envMoves_crc (t : EnvTurn) (s : State) : (envMoves t s).crc = s.crc := rfl
@[simp] theorem envMoves_elapsed (t : EnvTurn) (s : State) : (envMoves t s).elapsed = s.elapsed := rfl
@[simp] theorem envMoves_txfc (t : EnvTurn) (s : State) : (envMoves t s).txfc = s.txfc := rfl
@[simp] theorem envMoves_txseq (t : EnvTurn) (s : State) : (envMoves t s).txseq = s.txseq := rfl
@[simp] theorem envMoves_txsa (t : EnvTurn) (s : State) : (envMoves t s).txsa = s.txsa := rfl
@[simp] theorem envMoves_txda (t : EnvTurn) (s : State) : (envMoves t s).txda = s.txda := rfl
@[simp] theorem envMoves_txlen (t : EnvTurn) (s : State) : (envMoves t s).txlen = s.txlen := rfl
@[simp] theorem envMoves_rxfc (t : EnvTurn) (s : State) : (envMoves t s).rxfc = s.rxfc := rfl
@[simp] theorem envMoves_rxseq (t : EnvTurn) (s : State) : (envMoves t s).rxseq = s.rxseq := rfl
@[simp] theorem envMoves_rxsa (t : EnvTurn) (s : State) : (envMoves t s).rxsa = s.rxsa := rfl
@[simp] theorem envMoves_rxda (t : EnvTurn) (s : State) : (envMoves t s).rxda = s.rxda := rfl
@[simp] theorem envMoves_rxfcs (t : EnvTurn) (s : State) : (envMoves t s).rxfcs = s.rxfcs := rfl
@[simp] theorem envMoves_fblen (t : EnvTurn) (s : State) : (envMoves t s).fblen = s.fblen := rfl
@[simp] theorem envMoves_txpay (t : EnvTurn) (s : State) : (envMoves t s).txpay = s.txpay := rfl
@[simp] theorem envMoves_rxpay (t : EnvTurn) (s : State) : (envMoves t s).rxpay = s.rxpay := rfl
@[simp] theorem envMoves_fbuf (t : EnvTurn) (s : State) : (envMoves t s).fbuf = s.fbuf := rfl
@[simp] theorem envMoves_ctl (t : EnvTurn) (s : State) : (envMoves t s).ctl = s.ctl := rfl
@[simp] theorem envMoves_rxq (t : EnvTurn) (s : State) : (envMoves t s).rxq = s.rxq ++ t.arrive := rfl
@[simp] theorem envMoves_txbuf (t : EnvTurn) (s : State) : (envMoves t s).txbuf = s.txbuf.drop t.drain := rfl
@[simp] theorem envMoves_wire (t : EnvTurn) (s : State) : (envMoves t s).wire = s.wire ++ s.txbuf.take t.drain := rfl
@[simp] theorem envMoves_script (t : EnvTurn) (s : State) : (envMoves t s).script = s.script := rfl
@[simp] theorem envMoves_response (t : EnvTurn) (s : State) : (envMoves t s).response = s.response := rfl
@[simp] theorem envMoves_env (t : EnvTurn) (s : State) : (envMoves t s).env = s.env := rfl
@[simp] theorem envMoves_params (t : EnvTurn) (s : State) : (envMoves t s).params = s.params := rfl
@[simp] theorem envMoves_flen (t : EnvTurn) (s : State) : flen (envMoves t s) = flen s := rfl

/-! ### `pipeOpened` -/

@[simp] theorem pipeOpened_laddr (s : State) : (pipeOpened s).laddr = s.laddr := rfl
@[simp] theorem pipeOpened_plen (s : State) : (pipeOpened s).plen = s.plen := rfl
@[simp] theorem pipeOpened_seqcnt (s : State) : (pipeOpened s).seqcnt = s.seqcnt := rfl
@[simp] theorem pipeOpened_txdly (s : State) : (pipeOpened s).txdly = s.txdly := rfl
@[simp] theorem pipeOpened_tmo (s : State) : (pipeOpened s).tmo = s.tmo := rfl
@[simp] theorem pipeOpened_daddr (s : State) : (pipeOpened s).daddr = s.daddr := rfl
@[simp] theorem pipeOpened_opened (s : State) : (pipeOpened s).opened = true := rfl
@[simp] theorem pipeOpened_rxv (s : State) : (pipeOpened s).rxv = s.rxv := rfl
@[simp] theorem pipeOpened_crc (s : State) : (pipeOpened s).crc = s.crc := rfl
@[simp] theorem pipeOpened_elapsed (s : State) : (pipeOpened s).elapsed = s.elapsed := rfl
@[simp] theorem pipeOpened_txfc (s : State) : (pipeOpened s).txfc = s.txfc := rfl
@[simp] theorem pipeOpened_txseq (s : State) : (pipeOpened s).txseq = s.txseq := rfl
@[simp] theorem pipeOpened_txsa (s : State) : (pipeOpened s).txsa = s.txsa := rfl
@[simp] theorem pipeOpened_txda (s : State) : (pipeOpened s).txda = s.txda := rfl
@[simp] theorem pipeOpened_txlen (s : State) : (pipeOpened s).txlen = s.txlen := rfl
@[simp] theorem pipeOpened_rxfc (s : State) : (pipeOpened s).rxfc = s.rxfc := rfl
@[simp] theorem pipeOpened_rxseq (s : State) : (pipeOpened s).rxseq = s.rxseq := rfl
@[simp] theorem pipeOpened_rxsa (s : State) : (pipeOpened s).rxsa = s.rxsa := rfl
@[simp] theorem pipeOpened_rxda (s : State) : (pipeOpened s).rxda = s.rxda := rfl
@[simp] theorem pipeOpened_rxfcs (s : State) : (pipeOpened s).rxfcs = s.rxfcs := rfl
@[simp] theorem pipeOpened_fblen (s : State) : (pipeOpened s).fblen = s.fblen := rfl
@[simp] theorem pipeOpened_txpay (s : State) : (pipeOpened s).txpay = s.txpay := rfl
@[simp] theorem pipeOpened_rxpay (s : State) : (pipeOpened s).rxpay = s.rxpay := rfl
@[simp] theorem pipeOpened_fbuf (s : State) : (pipeOpened s).fbuf = s.fbuf := rfl
@[simp] theorem pipeOpened_ctl (s : State) : (pipeOpened s).ctl = s.ctl := rfl
@[simp] theorem pipeOpened_rxq (s : State) : (pipeOpened s).rxq = [] := rfl
@[simp] theorem pipeOpened_txbuf (s : State) : (pipeOpened s).txbuf = [] := rfl
@[simp] theorem pipeOpened_wire (s : State) : (pipeOpened s).wire = s.wire := rfl
@[simp] theorem pipeOpened_script (s : State) : (pipeOpened s).script = s.script := rfl
@[simp] theorem pipeOpened_response (s : State) : (pipeOpened s).response = s.response := rfl
@[simp] theorem pipeOpened_env (s : State) : (pipeOpened s).env = s.env := rfl
@[simp] theorem pipeOpened_params (s : State) : (pipeOpened s).params = s.params := rfl
@[simp] theorem pipeOpened_flen (s : State) : flen (pipeOpened s) = flen s := rfl

/-! ### `pipeClosed` -/

@[simp] theorem pipeClosed_laddr (s : State) : (pipeClosed s).laddr = s.laddr := rfl
@[simp] theorem pipeClosed_plen (s : State) : (pipeClosed s).plen = s.plen := rfl
@[simp] theorem pipeClosed_seqcnt (s : State) : (pipeClosed s).seqcnt = s.seqcnt := rfl
@[simp] theorem pipeClosed_txdly (s : State) : (pipeClosed s).txdly = s.txdly := rfl
@[simp] theorem pipeClosed_tmo (s : State) : (pipeClosed s).tmo = s.tmo := rfl
@[simp] theorem pipeClosed_daddr (s : State) : (pipeClosed s).daddr = s.daddr := rfl
@[simp] theorem pipeClosed_opened (s : State) : (pipeClosed s).opened = false := rfl
@[simp] theorem pipeClosed_rxv (s : State) : (pipeClosed s).rxv = s.rxv := rfl
@[simp] theorem pipeClosed_crc (s : State) : (pipeClosed s).crc = s.crc := rfl
@[simp] theorem pipeClosed_elapsed (s : State) : (pipeClosed s).elapsed = s.elapsed := rfl
@[simp] theorem pipeClosed_txfc (s : State) : (pipeClosed s).txfc = s.txfc := rfl
@[simp] theorem pipeClosed_txseq (s : State) : (pipeClosed s).txseq = s.txseq := rfl
@[simp] theorem pipeClosed_txsa (s : State) : (pipeClosed s).txsa = s.txsa := rfl
@[simp] theorem pipeClosed_txda (s : State) : (pipeClosed s).txda = s.txda := rfl
@[simp] theorem pipeClosed_txlen (s : State) : (pipeClosed s).txlen = s.txlen := rfl
@[simp] theorem pipeClosed_rxfc (s : State) : (pipeClosed s).rxfc = s.rxfc := rfl
@[simp] theorem pipeClosed_rxseq (s : State) : (pipeClosed s).rxseq = s.rxseq := rfl
@[simp] theorem pipeClosed_rxsa (s : State) : (pipeClosed s).rxsa = s.rxsa := rfl
@[simp] theorem pipeClosed_rxda (s : State) : (pipeClosed s).rxda = s.rxda := rfl
@[simp] theorem pipeClosed_rxfcs (s : State) : (pipeClosed s).rxfcs = s.rxfcs := rfl
@[simp] theorem pipeClosed_fblen (s : State) : (pipeClosed s).fblen = s.fblen := rfl
@[simp] theorem pipeClosed_txpay (s : State) : (pipeClosed s).txpay = s.txpay := rfl
@[simp] theorem pipeClosed_rxpay (s : State) : (pipeClosed s).rxpay = s.rxpay := rfl
@[simp] theorem pipeClosed_fbuf (s : State) : (pipeClosed s).fbuf = s.fbuf := rfl
@[simp] theorem pipeClosed_ctl (s : State) : (pipeClosed s).ctl = s.ctl := rfl
@[simp] theorem pipeClosed_rxq (s : State) : (pipeClosed s).rxq = s.rxq := rfl
@[simp] theorem pipeClosed_txbuf (s : State) : (pipeClosed s).txbuf = bif s.opened then [] else s.txbuf := rfl
@[simp] theorem pipeClosed_wire (s : State) : (pipeClosed s).wire = s.wire := rfl
@[simp] theorem pipeClosed_script (s : State) : (pipeClosed s).script = s.script := rfl
@[simp] theorem pipeClosed_response (s : State) : (pipeClosed s).response = s.response := rfl
@[simp] theorem pipeClosed_env (s : State) : (pipeClosed s).env = s.env := rfl
@[simp] theorem pipeClosed_params (s : State) : (pipeClosed s).params = s.params := rfl
@[simp] theorem pipeClosed_flen (s : State) : flen (pipeClosed s) = flen s := rfl

/-! ### `pipeFlushed` -/

@[simp] theorem pipeFlushed_laddr (s : State) : (pipeFlushed s).laddr = s.laddr := rfl
@[simp] theorem pipeFlushed_plen (s : State) : (pipeFlushed s).plen = s.plen := rfl
@[simp] theorem pipeFlushed_seqcnt (s : State) : (pipeFlushed s).seqcnt = s.seqcnt := rfl
@[simp] theorem pipeFlushed_txdly (s : State) : (pipeFlushed s).txdly = s.txdly := rfl
@[simp] theorem pipeFlushed_tmo (s : State) : (pipeFlushed s).tmo = s.tmo := rfl
@[simp] theorem pipeFlushed_daddr (s : State) : (pipeFlushed s).daddr = s.daddr := rfl
@[simp] theorem pipeFlushed_opened (s : State) : (pipeFlushed s).opened = s.opened := rfl
@[simp] theorem pipeFlushed_rxv (s : State) : (pipeFlushed s).rxv = s.rxv := rfl
@[simp] theorem pipeFlushed_crc (s : State) : (pipeFlushed s).crc = s.crc := rfl
@[simp] theorem pipeFlushed_elapsed (s : State) : (pipeFlushed s).elapsed = s.elapsed := rfl
@[simp] theorem pipeFlushed_txfc (s : State) : (pipeFlushed s).txfc = s.txfc := rfl
@[simp] theorem pipeFlushed_txseq (s : State) : (pipeFlushed s).txseq = s.txseq := rfl
@[simp] theorem pipeFlushed_txsa (s : State) : (pipeFlushed s).txsa = s.txsa := rfl
@[simp] theorem pipeFlushed_txda (s : State) : (pipeFlushed s).txda = s.txda := rfl
@[simp] theorem pipeFlushed_txlen (s : State) : (pipeFlushed s).txlen = s.txlen := rfl
@[simp] theorem pipeFlushed_rxfc (s : State) : (pipeFlushed s).rxfc = s.rxfc := rfl
@[simp] theorem pipeFlushed_rxseq (s : State) : (pipeFlushed s).rxseq = s.rxseq := rfl
@[simp] theorem pipeFlushed_rxsa (s : State) : (pipeFlushed s).rxsa = s.rxsa := rfl
@[simp] theorem pipeFlushed_rxda (s : State) : (pipeFlushed s).rxda = s.rxda := rfl
@[simp] theorem pipeFlushed_rxfcs (s : State) : (pipeFlushed s).rxfcs = s.rxfcs := rfl
@[simp] theorem pipeFlushed_fblen (s : State) : (pipeFlushed s).fblen = s.fblen := rfl
@[simp] theorem pipeFlushed_txpay (s : State) : (pipeFlushed s).txpay = s.txpay := rfl
@[simp] theorem pipeFlushed_rxpay (s : State) : (pipeFlushed s).rxpay = s.rxpay := rfl
@[simp] theorem pipeFlushed_fbuf (s : State) : (pipeFlushed s).fbuf = s.fbuf := rfl
@[simp] theorem pipeFlushed_ctl (s : State) : (pipeFlushed s).ctl = s.ctl := rfl
@[simp] theorem pipeFlushed_rxq (s : State) : (pipeFlushed s).rxq = s.rxq := rfl
@[simp] theorem pipeFlushed_txbuf (s : State) : (pipeFlushed s).txbuf = [] := rfl
@[simp] theorem pipeFlushed_wire (s : State) : (pipeFlushed s).wire = s.wire ++ s.txbuf := rfl
@[simp] theorem pipeFlushed_script (s : State) : (pipeFlushed s).script = s.script := rfl
@[simp] theorem pipeFlushed_response (s : State) : (pipeFlushed s).response = s.response := rfl
@[simp] theorem pipeFlushed_env (s : State) : (pipeFlushed s).env = s.env := rfl
@[simp] theorem pipeFlushed_params (s : State) : (pipeFlushed s).params = s.params := rfl
@[simp] theorem pipeFlushed_flen (s : State) : flen (pipeFlushed s) = flen s := rfl

/-! ### `pipeWrite` -/

@[simp] theorem pipeWrite_laddr (bs : List Byte) (s : State) : (pipeWrite bs s).laddr = s.laddr := rfl
@[simp] theorem pipeWrite_plen (bs : List Byte) (s : State) : (pipeWrite bs s).plen = s.plen := rfl
@[simp] theorem pipeWrite_seqcnt (bs : List Byte) (s : State) : (pipeWrite bs s).seqcnt = s.seqcnt := rfl
@[simp] theorem pipeWrite_txdly (bs : List Byte) (s : State) : (pipeWrite bs s).txdly = s.txdly := rfl
@[simp] theorem pipeWrite_tmo (bs : List Byte) (s : State) : (pipeWrite bs s).tmo = s.tmo := rfl
@[simp] theorem pipeWrite_daddr (bs : List Byte) (s : State) : (pipeWrite bs s).daddr = s.daddr := rfl
@[simp] theorem pipeWrite_opened (bs : List Byte) (s : State) : (pipeWrite bs s).opened = s.opened := rfl
@[simp] theorem pipeWrite_rxv (bs : List Byte) (s : State) : (pipeWrite bs s).rxv = s.rxv := rfl
@[simp] theorem pipeWrite_crc (bs : List Byte) (s : State) : (pipeWrite bs s).crc = s.crc := rfl
@[simp] theorem pipeWrite_elapsed (bs : List Byte) (s : State) : (pipeWrite bs s).elapsed = s.elapsed := rfl
@[simp] theorem pipeWrite_txfc (bs : List Byte) (s : State) : (pipeWrite bs s).txfc = s.txfc := rfl
@[simp] theorem pipeWrite_txseq (bs : List Byte) (s : State) : (pipeWrite bs s).txseq = s.txseq := rfl
@[simp] theorem pipeWrite_txsa (bs : List Byte) (s : State) : (pipeWrite bs s).txsa = s.txsa := rfl
@[simp] theorem pipeWrite_txda (bs : List Byte) (s : State) : (pipeWrite bs s).txda = s.txda := rfl
@[simp] theorem pipeWrite_txlen (bs : List Byte) (s : State) : (pipeWrite bs s).txlen = s.txlen := rfl
@[simp] theorem pipeWrite_rxfc (bs : List Byte) (s : State) : (pipeWrite bs s).rxfc = s.rxfc := rfl
@[simp] theorem pipeWrite_rxseq (bs : List Byte) (s : State) : (pipeWrite bs s).rxseq = s.rxseq := rfl
@[simp] theorem pipeWrite_rxsa (bs : List Byte) (s : State) : (pipeWrite bs s).rxsa = s.rxsa := rfl
@[simp] theorem pipeWrite_rxda (bs : List Byte) (s : State) : (pipeWrite bs s).rxda = s.rxda := rfl
@[simp] theorem pipeWrite_rxfcs (bs : List Byte) (s : State) : (pipeWrite bs s).rxfcs = s.rxfcs := rfl
@[simp] theorem pipeWrite_fblen (bs : List Byte) (s : State) : (pipeWrite bs s).fblen = s.fblen := rfl
@[simp] theorem pipeWrite_txpay (bs : List Byte) (s : State) : (pipeWrite bs s).txpay = s.txpay := rfl
@[simp] theorem pipeWrite_rxpay (bs : List Byte) (s : State) : (pipeWrite bs s).rxpay = s.rxpay := rfl
@[simp] theorem pipeWrite_fbuf (bs : List Byte) (s : State) : (pipeWrite bs s).fbuf = s.fbuf := rfl
@[simp] theorem pipeWrite_ctl (bs : List Byte) (s : State) : (pipeWrite bs s).ctl = s.ctl := rfl
@[simp] theorem pipeWrite_rxq (bs : List Byte) (s : State) : (pipeWrite bs s).rxq = s.rxq := rfl
@[simp] theorem pipeWrite_txbuf (bs : List Byte) (s : State) : (pipeWrite bs s).txbuf = s.txbuf ++ bs := rfl
@[simp] theorem pipeWrite_wire (bs : List Byte) (s : State) : (pipeWrite bs s).wire = s.wire := rfl
@[simp] theorem pipeWrite_script (bs : List Byte) (s : State) : (pipeWrite bs s).script = s.script := rfl
@[simp] theorem pipeWrite_response (bs : List Byte) (s : State) : (pipeWrite bs s).response = s.response := rfl
@[simp] theorem pipeWrite_env (bs : List Byte) (s : State) : (pipeWrite bs s).env = s.env := rfl
@[simp] theorem pipeWrite_params (bs : List Byte) (s : State) : (pipeWrite bs s).params = s.params := rfl
@[simp] theorem pipeWrite_flen (bs : List Byte) (s : State) : flen (pipeWrite bs s) = flen s := rfl

/-! ### `pipeDrop` -/

@[simp] theorem pipeDrop_laddr (n : Nat) (s : State) : (pipeDrop n s).laddr = s.laddr := rfl
@[simp] theorem pipeDrop_plen (n : Nat) (s : State) : (pipeDrop n s).plen = s.plen := rfl
@[simp] theorem pipeDrop_seqcnt (n : Nat) (s : State) : (pipeDrop n s).seqcnt = s.seqcnt := rfl
@[simp] theorem pipeDrop_txdly (n : Nat) (s : State) : (pipeDrop n s).txdly = s.txdly := rfl
@[simp] theorem pipeDrop_tmo (n : Nat) (s : State) : (pipeDrop n s).tmo = s.tmo := rfl
@[simp] theorem pipeDrop_daddr (n : Nat) (s : State) : (pipeDrop n s).daddr = s.daddr := rfl
@[simp] theorem pipeDrop_opened (n : Nat) (s : State) : (pipeDrop n s).opened = s.opened := rfl
@[simp] theorem pipeDrop_rxv (n : Nat) (s : State) : (pipeDrop n s).rxv = s.rxv := rfl
@[simp] theorem pipeDrop_crc (n : Nat) (s : State) : (pipeDrop n s).crc = s.crc := rfl
@[simp] theorem pipeDrop_elapsed (n : Nat) (s : State) : (pipeDrop n s).elapsed = s.elapsed := rfl
@[simp] theorem pipeDrop_txfc (n : Nat) (s : State) : (pipeDrop n s).txfc = s.txfc := rfl
@[simp] theorem pipeDrop_txseq (n : Nat) (s : State) : (pipeDrop n s).txseq = s.txseq := rfl
@[simp] theorem pipeDrop_txsa (n : Nat) (s : State) : (pipeDrop n s).txsa = s.txsa := rfl
@[simp] theorem pipeDrop_txda (n : Nat) (s : State) : (pipeDrop n s).txda = s.txda := rfl
@[simp] theorem pipeDrop_txlen (n : Nat) (s : State) : (pipeDrop n s).txlen = s.txlen := rfl
@[simp] theorem pipeDrop_rxfc (n : Nat) (s : State) : (pipeDrop n s).rxfc = s.rxfc := rfl
@[simp] theorem pipeDrop_rxseq (n : Nat) (s : State) : (pipeDrop n s).rxseq = s.rxseq := rfl
@[simp] theorem pipeDrop_rxsa (n : Nat) (s : State) : (pipeDrop n s).rxsa = s.rxsa := rfl
@[simp] theorem pipeDrop_rxda (n : Nat) (s : State) : (pipeDrop n s).rxda = s.rxda := rfl
@[simp] theorem pipeDrop_rxfcs (n : Nat) (s : State) : (pipeDrop n s).rxfcs = s.rxfcs := rfl
@[simp] theorem pipeDrop_fblen (n : Nat) (s : State) : (pipeDrop n s).fblen = s.fblen := rfl
@[simp] theorem pipeDrop_txpay (n : Nat) (s : State) : (pipeDrop n s).txpay = s.txpay := rfl
@[simp] theorem pipeDrop_rxpay (n : Nat) (s : State) : (pipeDrop n s).rxpay = s.rxpay := rfl
@[simp] theorem pipeDrop_fbuf (n : Nat) (s : State) : (pipeDrop n s).fbuf = s.fbuf := rfl
@[simp] theorem pipeDrop_ctl (n : Nat) (s : State) : (pipeDrop n s).ctl = s.ctl := rfl
@[simp] theorem pipeDrop_rxq (n : Nat) (s : State) : (pipeDrop n s).rxq = s.rxq.drop n := rfl
@[simp] theorem pipeDrop_txbuf (n : Nat) (s : State) : (pipeDrop n s).txbuf = s.txbuf := rfl
@[simp] theorem pipeDrop_wire (n : Nat) (s : State) : (pipeDrop n s).wire = s.wire := rfl
@[simp] theorem pipeDrop_script (n : Nat) (s : State) : (pipeDrop n s).script = s.script := rfl
@[simp] theorem pipeDrop_response (n : Nat) (s : State) : (pipeDrop n s).response = s.response := rfl
@[simp] theorem pipeDrop_env (n : Nat) (s : State) : (pipeDrop n s).env = s.env := rfl
@[simp] theorem pipeDrop_params (n : Nat) (s : State) : (pipeDrop n s).params = s.params := rfl
@[simp] theorem pipeDrop_flen (n : Nat) (s : State) : flen (pipeDrop n s) = flen s := rfl

/-! ### `bufferFrame` -/

@[simp] theorem bufferFrame_laddr (b : List Byte) (s : State) : (bufferFrame b s).laddr = s.laddr := rfl
@[simp] theorem bufferFrame_plen (b : List Byte) (s : State) : (bufferFrame b s).plen = s.plen := rfl
@[simp] theorem bufferFrame_seqcnt (b : List Byte) (s : State) : (bufferFrame b s).seqcnt = s.seqcnt := rfl
@[simp] theorem bufferFrame_txdly (b : List Byte) (s : State) : (bufferFrame b s).txdly = s.txdly := rfl
@[simp] theorem bufferFrame_tmo (b : List Byte) (s : State) : (bufferFrame b s).tmo = s.tmo := rfl
@[simp] theorem bufferFrame_daddr (b : List Byte) (s : State) : (bufferFrame b s).daddr = s.daddr := rfl
@[simp] theorem bufferFrame_opened (b : List Byte) (s : State) : (bufferFrame b s).opened = s.opened := rfl
@[simp] theorem bufferFrame_rxv (b : List Byte) (s : State) : (bufferFrame b s).rxv = s.rxv := rfl
@[simp] theorem bufferFrame_crc (b : List Byte) (s : State) : (bufferFrame b s).crc = s.crc := rfl
@[simp] theorem bufferFrame_elapsed (b : List Byte) (s : State) : (bufferFrame b s).elapsed = s.elapsed := rfl
@[simp] theorem bufferFrame_txfc (b : List Byte) (s : State) : (bufferFrame b s).txfc = s.txfc := rfl
@[simp] theorem bufferFrame_txseq (b : List Byte) (s : State) : (bufferFrame b s).txseq = s.txseq := rfl
@[simp] theorem bufferFrame_txsa (b : List Byte) (s : State) : (bufferFrame b s).txsa = s.txsa := rfl
@[simp] theorem bufferFrame_txda (b : List Byte) (s : State) : (bufferFrame b s).txda = s.txda := rfl
@[simp] theorem bufferFrame_txlen (b : List Byte) (s : State) : (bufferFrame b s).txlen = s.txlen := rfl
@[simp] theorem bufferFrame_rxfc (b : List Byte) (s : State) : (bufferFrame b s).rxfc = s.rxfc := rfl
@[simp] theorem bufferFrame_rxseq (b : List Byte) (s : State) : (bufferFrame b s).rxseq = s.rxseq := rfl
@[simp] theorem bufferFrame_rxsa (b : List Byte) (s : State) : (bufferFrame b s).rxsa = s.rxsa := rfl
@[simp] theorem bufferFrame_rxda (b : List Byte) (s : State) : (bufferFrame b s).rxda = s.rxda := rfl
@[simp] theorem bufferFrame_rxfcs (b : List Byte) (s : State) : (bufferFrame b s).rxfcs = s.rxfcs := rfl
@[simp] theorem bufferFrame_fblen (b : List Byte) (s : State) : (bufferFrame b s).fblen = BitVec.ofNat 8 (flen s) := rfl
@[simp] theorem bufferFrame_txpay (b : List Byte) (s : State) : (bufferFrame b s).txpay = s.txpay := rfl
@[simp] theorem bufferFrame_rxpay (b : List Byte) (s : State) : (bufferFrame b s).rxpay = s.rxpay := rfl
@[simp] theorem bufferFrame_fbuf (b : List Byte) (s : State) : (bufferFrame b s).fbuf = Memory.writeAll s.fbuf 0 b := rfl
@[simp] theorem bufferFrame_ctl (b : List Byte) (s : State) : (bufferFrame b s).ctl = s.ctl := rfl
@[simp] theorem bufferFrame_rxq (b : List Byte) (s : State) : (bufferFrame b s).rxq = s.rxq := rfl
@[simp] theorem bufferFrame_txbuf (b : List Byte) (s : State) : (bufferFrame b s).txbuf = s.txbuf := rfl
@[simp] theorem bufferFrame_wire (b : List Byte) (s : State) : (bufferFrame b s).wire = s.wire := rfl
@[simp] theorem bufferFrame_script (b : List Byte) (s : State) : (bufferFrame b s).script = s.script := rfl
@[simp] theorem bufferFrame_response (b : List Byte) (s : State) : (bufferFrame b s).response = s.response := rfl
@[simp] theorem bufferFrame_env (b : List Byte) (s : State) : (bufferFrame b s).env = s.env := rfl
@[simp] theorem bufferFrame_params (b : List Byte) (s : State) : (bufferFrame b s).params = s.params := rfl
@[simp] theorem bufferFrame_flen (b : List Byte) (s : State) : flen (bufferFrame b s) = flen s := rfl

/-! ### `setCrc` -/

@[simp] theorem setCrc_laddr (c : Half) (s : State) : (setCrc c s).laddr = s.laddr := rfl
@[simp] theorem setCrc_plen (c : Half) (s : State) : (setCrc c s).plen = s.plen := rfl
@[simp] theorem setCrc_seqcnt (c : Half) (s : State) : (setCrc c s).seqcnt = s.seqcnt := rfl
@[simp] theorem setCrc_txdly (c : Half) (s : State) : (setCrc c s).txdly = s.txdly := rfl
@[simp] theorem setCrc_tmo (c : Half) (s : State) : (setCrc c s).tmo = s.tmo := rfl
@[simp] theorem setCrc_daddr (c : Half) (s : State) : (setCrc c s).daddr = s.daddr := rfl
@[simp] theorem setCrc_opened (c : Half) (s : State) : (setCrc c s).opened = s.opened := rfl
@[simp] theorem setCrc_rxv (c : Half) (s : State) : (setCrc c s).rxv = s.rxv := rfl
@[simp] theorem setCrc_crc (c : Half) (s : State) : (setCrc c s).crc = c := rfl
@[simp] theorem setCrc_elapsed (c : Half) (s : State) : (setCrc c s).elapsed = s.elapsed := rfl
@[simp] theorem setCrc_txfc (c : Half) (s : State) : (setCrc c s).txfc = s.txfc := rfl
@[simp] theorem setCrc_txseq (c : Half) (s : State) : (setCrc c s).txseq = s.txseq := rfl
@[simp] theorem setCrc_txsa (c : Half) (s : State) : (setCrc c s).txsa = s.txsa := rfl
@[simp] theorem setCrc_txda (c : Half) (s : State) : (setCrc c s).txda = s.txda := rfl
@[simp] theorem setCrc_txlen (c : Half) (s : State) : (setCrc c s).txlen = s.txlen := rfl
@[simp] theorem setCrc_rxfc (c : Half) (s : State) : (setCrc c s).rxfc = s.rxfc := rfl
@[simp] theorem setCrc_rxseq (c : Half) (s : State) : (setCrc c s).rxseq = s.rxseq := rfl
@[simp] theorem setCrc_rxsa (c : Half) (s : State) : (setCrc c s).rxsa = s.rxsa := rfl
@[simp] theorem setCrc_rxda (c : Half) (s : State) : (setCrc c s).rxda = s.rxda := rfl
@[simp] theorem setCrc_rxfcs (c : Half) (s : State) : (setCrc c s).rxfcs = s.rxfcs := rfl
@[simp] theorem setCrc_fblen (c : Half) (s : State) : (setCrc c s).fblen = s.fblen := rfl
@[simp] theorem setCrc_txpay (c : Half) (s : State) : (setCrc c s).txpay = s.txpay := rfl
@[simp] theorem setCrc_rxpay (c : Half) (s : State) : (setCrc c s).rxpay = s.rxpay := rfl
@[simp] theorem setCrc_fbuf (c : Half) (s : State) : (setCrc c s).fbuf = s.fbuf := rfl
@[simp] theorem setCrc_ctl (c : Half) (s : State) : (setCrc c s).ctl = s.ctl := rfl
@[simp] theorem setCrc_rxq (c : Half) (s : State) : (setCrc c s).rxq = s.rxq := rfl
@[simp] theorem setCrc_txbuf (c : Half) (s : State) : (setCrc c s).txbuf = s.txbuf := rfl
@[simp] theorem setCrc_wire (c : Half) (s : State) : (setCrc c s).wire = s.wire := rfl
@[simp] theorem setCrc_script (c : Half) (s : State) : (setCrc c s).script = s.script := rfl
@[simp] theorem setCrc_response (c : Half) (s : State) : (setCrc c s).response = s.response := rfl
@[simp] theorem setCrc_env (c : Half) (s : State) : (setCrc c s).env = s.env := rfl
@[simp] theorem setCrc_params (c : Half) (s : State) : (setCrc c s).params = s.params := rfl
@[simp] theorem setCrc_flen (c : Half) (s : State) : flen (setCrc c s) = flen s := rfl

/-! ### `clearRxv` -/

@[simp] theorem clearRxv_laddr (s : State) : (clearRxv s).laddr = s.laddr := rfl
@[simp] theorem clearRxv_plen (s : State) : (clearRxv s).plen = s.plen := rfl
@[simp] theorem clearRxv_seqcnt (s : State) : (clearRxv s).seqcnt = s.seqcnt := rfl
@[simp] theorem clearRxv_txdly (s : State) : (clearRxv s).txdly = s.txdly := rfl
@[simp] theorem clearRxv_tmo (s : State) : (clearRxv s).tmo = s.tmo := rfl
@[simp] theorem clearRxv_daddr (s : State) : (clearRxv s).daddr = s.daddr := rfl
@[simp] theorem clearRxv_opened (s : State) : (clearRxv s).opened = s.opened := rfl
@[simp] theorem clearRxv_rxv (s : State) : (clearRxv s).rxv = false := rfl
@[simp] theorem clearRxv_crc (s : State) : (clearRxv s).crc = s.crc := rfl
@[simp] theorem clearRxv_elapsed (s : State) : (clearRxv s).elapsed = s.elapsed := rfl
@[simp] theorem clearRxv_txfc (s : State) : (clearRxv s).txfc = s.txfc := rfl
@[simp] theorem clearRxv_txseq (s : State) : (clearRxv s).txseq = s.txseq := rfl
@[simp] theorem clearRxv_txsa (s : State) : (clearRxv s).txsa = s.txsa := rfl
@[simp] theorem clearRxv_txda (s : State) : (clearRxv s).txda = s.txda := rfl
@[simp] theorem clearRxv_txlen (s : State) : (clearRxv s).txlen = s.txlen := rfl
@[simp] theorem clearRxv_rxfc (s : State) : (clearRxv s).rxfc = s.rxfc := rfl
@[simp] theorem clearRxv_rxseq (s : State) : (clearRxv s).rxseq = s.rxseq := rfl
@[simp] theorem clearRxv_rxsa (s : State) : (clearRxv s).rxsa = s.rxsa := rfl
@[simp] theorem clearRxv_rxda (s : State) : (clearRxv s).rxda = s.rxda := rfl
@[simp] theorem clearRxv_rxfcs (s : State) : (clearRxv s).rxfcs = s.rxfcs := rfl
@[simp] theorem clearRxv_fblen (s : State) : (clearRxv s).fblen = s.fblen := rfl
@[simp] theorem clearRxv_txpay (s : State) : (clearRxv s).txpay = s.txpay := rfl
@[simp] theorem clearRxv_rxpay (s : State) : (clearRxv s).rxpay = s.rxpay := rfl
@[simp] theorem clearRxv_fbuf (s : State) : (clearRxv s).fbuf = s.fbuf := rfl
@[simp] theorem clearRxv_ctl (s : State) : (clearRxv s).ctl = s.ctl := rfl
@[simp] theorem clearRxv_rxq (s : State) : (clearRxv s).rxq = s.rxq := rfl
@[simp] theorem clearRxv_txbuf (s : State) : (clearRxv s).txbuf = s.txbuf := rfl
@[simp] theorem clearRxv_wire (s : State) : (clearRxv s).wire = s.wire := rfl
@[simp] theorem clearRxv_script (s : State) : (clearRxv s).script = s.script := rfl
@[simp] theorem clearRxv_response (s : State) : (clearRxv s).response = s.response := rfl
@[simp] theorem clearRxv_env (s : State) : (clearRxv s).env = s.env := rfl
@[simp] theorem clearRxv_params (s : State) : (clearRxv s).params = s.params := rfl
@[simp] theorem clearRxv_flen (s : State) : flen (clearRxv s) = flen s := rfl

/-! ### `deliver` -/

@[simp] theorem deliver_laddr (b : List Byte) (s : State) : (deliver b s).laddr = s.laddr := rfl
@[simp] theorem deliver_plen (b : List Byte) (s : State) : (deliver b s).plen = s.plen := rfl
@[simp] theorem deliver_seqcnt (b : List Byte) (s : State) : (deliver b s).seqcnt = s.seqcnt := rfl
@[simp] theorem deliver_txdly (b : List Byte) (s : State) : (deliver b s).txdly = s.txdly := rfl
@[simp] theorem deliver_tmo (b : List Byte) (s : State) : (deliver b s).tmo = s.tmo := rfl
@[simp] theorem deliver_daddr (b : List Byte) (s : State) : (deliver b s).daddr = s.daddr := rfl
@[simp] theorem deliver_opened (b : List Byte) (s : State) : (deliver b s).opened = s.opened := rfl
@[simp] theorem deliver_rxv (b : List Byte) (s : State) : (deliver b s).rxv = true := rfl
@[simp] theorem deliver_crc (b : List Byte) (s : State) : (deliver b s).crc = s.crc := rfl
@[simp] theorem deliver_elapsed (b : List Byte) (s : State) : (deliver b s).elapsed = s.elapsed := rfl
@[simp] theorem deliver_txfc (b : List Byte) (s : State) : (deliver b s).txfc = s.txfc := rfl
@[simp] theorem deliver_txseq (b : List Byte) (s : State) : (deliver b s).txseq = s.txseq := rfl
@[simp] theorem deliver_txsa (b : List Byte) (s : State) : (deliver b s).txsa = s.txsa := rfl
@[simp] theorem deliver_txda (b : List Byte) (s : State) : (deliver b s).txda = s.txda := rfl
@[simp] theorem deliver_txlen (b : List Byte) (s : State) : (deliver b s).txlen = s.txlen := rfl
@[simp] theorem deliver_rxfc (b : List Byte) (s : State) : (deliver b s).rxfc = byteAt b 0 := rfl
@[simp] theorem deliver_rxseq (b : List Byte) (s : State) : (deliver b s).rxseq = byteAt b 1 := rfl
@[simp] theorem deliver_rxsa (b : List Byte) (s : State) : (deliver b s).rxsa = sourceOf b := rfl
@[simp] theorem deliver_rxda (b : List Byte) (s : State) : (deliver b s).rxda = destOf b := rfl
@[simp] theorem deliver_rxfcs (b : List Byte) (s : State) : (deliver b s).rxfcs = sentFcs b s.plen.toNat := rfl
@[simp] theorem deliver_fblen (b : List Byte) (s : State) : (deliver b s).fblen = s.fblen := rfl
@[simp] theorem deliver_txpay (b : List Byte) (s : State) : (deliver b s).txpay = s.txpay := rfl
@[simp] theorem deliver_rxpay (b : List Byte) (s : State) : (deliver b s).rxpay = Memory.writeAll s.rxpay 0 (payloadOf b s.plen.toNat) := rfl
@[simp] theorem deliver_fbuf (b : List Byte) (s : State) : (deliver b s).fbuf = s.fbuf := rfl
@[simp] theorem deliver_ctl (b : List Byte) (s : State) : (deliver b s).ctl = s.ctl := rfl
@[simp] theorem deliver_rxq (b : List Byte) (s : State) : (deliver b s).rxq = s.rxq := rfl
@[simp] theorem deliver_txbuf (b : List Byte) (s : State) : (deliver b s).txbuf = s.txbuf := rfl
@[simp] theorem deliver_wire (b : List Byte) (s : State) : (deliver b s).wire = s.wire := rfl
@[simp] theorem deliver_script (b : List Byte) (s : State) : (deliver b s).script = s.script := rfl
@[simp] theorem deliver_response (b : List Byte) (s : State) : (deliver b s).response = s.response := rfl
@[simp] theorem deliver_env (b : List Byte) (s : State) : (deliver b s).env = s.env := rfl
@[simp] theorem deliver_params (b : List Byte) (s : State) : (deliver b s).params = s.params := rfl
@[simp] theorem deliver_flen (b : List Byte) (s : State) : flen (deliver b s) = flen s := rfl

/-! ### `countWait` -/

@[simp] theorem countWait_laddr (s : State) : (countWait s).laddr = s.laddr := rfl
@[simp] theorem countWait_plen (s : State) : (countWait s).plen = s.plen := rfl
@[simp] theorem countWait_seqcnt (s : State) : (countWait s).seqcnt = s.seqcnt := rfl
@[simp] theorem countWait_txdly (s : State) : (countWait s).txdly = s.txdly := rfl
@[simp] theorem countWait_tmo (s : State) : (countWait s).tmo = s.tmo := rfl
@[simp] theorem countWait_daddr (s : State) : (countWait s).daddr = s.daddr := rfl
@[simp] theorem countWait_opened (s : State) : (countWait s).opened = s.opened := rfl
@[simp] theorem countWait_rxv (s : State) : (countWait s).rxv = s.rxv := rfl
@[simp] theorem countWait_crc (s : State) : (countWait s).crc = s.crc := rfl
@[simp] theorem countWait_elapsed (s : State) : (countWait s).elapsed = s.elapsed + pollInterval := rfl
@[simp] theorem countWait_txfc (s : State) : (countWait s).txfc = s.txfc := rfl
@[simp] theorem countWait_txseq (s : State) : (countWait s).txseq = s.txseq := rfl
@[simp] theorem countWait_txsa (s : State) : (countWait s).txsa = s.txsa := rfl
@[simp] theorem countWait_txda (s : State) : (countWait s).txda = s.txda := rfl
@[simp] theorem countWait_txlen (s : State) : (countWait s).txlen = s.txlen := rfl
@[simp] theorem countWait_rxfc (s : State) : (countWait s).rxfc = s.rxfc := rfl
@[simp] theorem countWait_rxseq (s : State) : (countWait s).rxseq = s.rxseq := rfl
@[simp] theorem countWait_rxsa (s : State) : (countWait s).rxsa = s.rxsa := rfl
@[simp] theorem countWait_rxda (s : State) : (countWait s).rxda = s.rxda := rfl
@[simp] theorem countWait_rxfcs (s : State) : (countWait s).rxfcs = s.rxfcs := rfl
@[simp] theorem countWait_fblen (s : State) : (countWait s).fblen = s.fblen := rfl
@[simp] theorem countWait_txpay (s : State) : (countWait s).txpay = s.txpay := rfl
@[simp] theorem countWait_rxpay (s : State) : (countWait s).rxpay = s.rxpay := rfl
@[simp] theorem countWait_fbuf (s : State) : (countWait s).fbuf = s.fbuf := rfl
@[simp] theorem countWait_ctl (s : State) : (countWait s).ctl = s.ctl := rfl
@[simp] theorem countWait_rxq (s : State) : (countWait s).rxq = s.rxq := rfl
@[simp] theorem countWait_txbuf (s : State) : (countWait s).txbuf = s.txbuf := rfl
@[simp] theorem countWait_wire (s : State) : (countWait s).wire = s.wire := rfl
@[simp] theorem countWait_script (s : State) : (countWait s).script = s.script := rfl
@[simp] theorem countWait_response (s : State) : (countWait s).response = s.response := rfl
@[simp] theorem countWait_env (s : State) : (countWait s).env = s.env := rfl
@[simp] theorem countWait_params (s : State) : (countWait s).params = s.params := rfl
@[simp] theorem countWait_flen (s : State) : flen (countWait s) = flen s := rfl

/-! ### `assignHeader` -/

@[simp] theorem assignHeader_laddr (s : State) : (assignHeader s).laddr = s.laddr := rfl
@[simp] theorem assignHeader_plen (s : State) : (assignHeader s).plen = s.plen := rfl
@[simp] theorem assignHeader_seqcnt (s : State) : (assignHeader s).seqcnt = s.seqcnt + 1 := rfl
@[simp] theorem assignHeader_txdly (s : State) : (assignHeader s).txdly = s.txdly := rfl
@[simp] theorem assignHeader_tmo (s : State) : (assignHeader s).tmo = s.tmo := rfl
@[simp] theorem assignHeader_daddr (s : State) : (assignHeader s).daddr = s.daddr := rfl
@[simp] theorem assignHeader_opened (s : State) : (assignHeader s).opened = s.opened := rfl
@[simp] theorem assignHeader_rxv (s : State) : (assignHeader s).rxv = s.rxv := rfl
@[simp] theorem assignHeader_crc (s : State) : (assignHeader s).crc = s.crc := rfl
@[simp] theorem assignHeader_elapsed (s : State) : (assignHeader s).elapsed = s.elapsed := rfl
@[simp] theorem assignHeader_txfc (s : State) : (assignHeader s).txfc = s.txfc := rfl
@[simp] theorem assignHeader_txseq (s : State) : (assignHeader s).txseq = s.seqcnt := rfl
@[simp] theorem assignHeader_txsa (s : State) : (assignHeader s).txsa = s.laddr := rfl
@[simp] theorem assignHeader_txda (s : State) : (assignHeader s).txda = s.daddr := rfl
@[simp] theorem assignHeader_txlen (s : State) : (assignHeader s).txlen = s.txlen := rfl
@[simp] theorem assignHeader_rxfc (s : State) : (assignHeader s).rxfc = s.rxfc := rfl
@[simp] theorem assignHeader_rxseq (s : State) : (assignHeader s).rxseq = s.rxseq := rfl
@[simp] theorem assignHeader_rxsa (s : State) : (assignHeader s).rxsa = s.rxsa := rfl
@[simp] theorem assignHeader_rxda (s : State) : (assignHeader s).rxda = s.rxda := rfl
@[simp] theorem assignHeader_rxfcs (s : State) : (assignHeader s).rxfcs = s.rxfcs := rfl
@[simp] theorem assignHeader_fblen (s : State) : (assignHeader s).fblen = s.fblen := rfl
@[simp] theorem assignHeader_txpay (s : State) : (assignHeader s).txpay = s.txpay := rfl
@[simp] theorem assignHeader_rxpay (s : State) : (assignHeader s).rxpay = s.rxpay := rfl
@[simp] theorem assignHeader_fbuf (s : State) : (assignHeader s).fbuf = s.fbuf := rfl
@[simp] theorem assignHeader_ctl (s : State) : (assignHeader s).ctl = s.ctl := rfl
@[simp] theorem assignHeader_rxq (s : State) : (assignHeader s).rxq = s.rxq := rfl
@[simp] theorem assignHeader_txbuf (s : State) : (assignHeader s).txbuf = s.txbuf := rfl
@[simp] theorem assignHeader_wire (s : State) : (assignHeader s).wire = s.wire := rfl
@[simp] theorem assignHeader_script (s : State) : (assignHeader s).script = s.script := rfl
@[simp] theorem assignHeader_response (s : State) : (assignHeader s).response = s.response := rfl
@[simp] theorem assignHeader_env (s : State) : (assignHeader s).env = s.env := rfl
@[simp] theorem assignHeader_params (s : State) : (assignHeader s).params = s.params := rfl
@[simp] theorem assignHeader_flen (s : State) : flen (assignHeader s) = flen s := rfl

/-! ### `startSync` -/

@[simp] theorem startSync_laddr (s : State) : (startSync s).laddr = s.laddr := rfl
@[simp] theorem startSync_plen (s : State) : (startSync s).plen = s.plen := rfl
@[simp] theorem startSync_seqcnt (s : State) : (startSync s).seqcnt = s.seqcnt := rfl
@[simp] theorem startSync_txdly (s : State) : (startSync s).txdly = s.txdly := rfl
@[simp] theorem startSync_tmo (s : State) : (startSync s).tmo = s.tmo := rfl
@[simp] theorem startSync_daddr (s : State) : (startSync s).daddr = s.daddr := rfl
@[simp] theorem startSync_opened (s : State) : (startSync s).opened = s.opened := rfl
@[simp] theorem startSync_rxv (s : State) : (startSync s).rxv = false := rfl
@[simp] theorem startSync_crc (s : State) : (startSync s).crc = s.crc := rfl
@[simp] theorem startSync_elapsed (s : State) : (startSync s).elapsed = 0 := rfl
@[simp] theorem startSync_txfc (s : State) : (startSync s).txfc = s.txfc := rfl
@[simp] theorem startSync_txseq (s : State) : (startSync s).txseq = s.txseq := rfl
@[simp] theorem startSync_txsa (s : State) : (startSync s).txsa = s.txsa := rfl
@[simp] theorem startSync_txda (s : State) : (startSync s).txda = s.txda := rfl
@[simp] theorem startSync_txlen (s : State) : (startSync s).txlen = s.txlen := rfl
@[simp] theorem startSync_rxfc (s : State) : (startSync s).rxfc = s.rxfc := rfl
@[simp] theorem startSync_rxseq (s : State) : (startSync s).rxseq = s.rxseq := rfl
@[simp] theorem startSync_rxsa (s : State) : (startSync s).rxsa = s.rxsa := rfl
@[simp] theorem startSync_rxda (s : State) : (startSync s).rxda = s.rxda := rfl
@[simp] theorem startSync_rxfcs (s : State) : (startSync s).rxfcs = s.rxfcs := rfl
@[simp] theorem startSync_fblen (s : State) : (startSync s).fblen = s.fblen := rfl
@[simp] theorem startSync_txpay (s : State) : (startSync s).txpay = s.txpay := rfl
@[simp] theorem startSync_rxpay (s : State) : (startSync s).rxpay = s.rxpay := rfl
@[simp] theorem startSync_fbuf (s : State) : (startSync s).fbuf = s.fbuf := rfl
@[simp] theorem startSync_ctl (s : State) : (startSync s).ctl = s.ctl := rfl
@[simp] theorem startSync_rxq (s : State) : (startSync s).rxq = s.rxq := rfl
@[simp] theorem startSync_txbuf (s : State) : (startSync s).txbuf = s.txbuf := rfl
@[simp] theorem startSync_wire (s : State) : (startSync s).wire = s.wire := rfl
@[simp] theorem startSync_script (s : State) : (startSync s).script = s.script := rfl
@[simp] theorem startSync_response (s : State) : (startSync s).response = s.response := rfl
@[simp] theorem startSync_env (s : State) : (startSync s).env = s.env := rfl
@[simp] theorem startSync_params (s : State) : (startSync s).params = s.params := rfl
@[simp] theorem startSync_flen (s : State) : flen (startSync s) = flen s := rfl

end Sys2Proof.Machine
end

