-- ==== Sys2Proof/Laws/Ops.lean ====
section
/-!
SUPPORT. What each shared operation does, said once: the proofs cite these lemmas and do not unfold the operations.
-/

namespace Sys2Proof.Machine

@[simp] theorem blt_eq_false {a b : Nat} : Nat.blt a b = false ↔ b ≤ a := by
  rw [← Bool.not_eq_true, Nat.blt_eq, Nat.not_lt]

@[simp] theorem ble_eq_false {a b : Nat} : Nat.ble a b = false ↔ b < a := by
  rw [← Bool.not_eq_true, Nat.ble_eq, Nat.not_le]

/-! ### Ending a command -/

@[simp] theorem raise_eq (rc : ResultCode) (s : State) : raise rc s = respond rc 0 s := rfl

@[simp] theorem checkFrame_eq (b : List Byte) (s : State) :
    checkFrame b s = setCrc (crcAcc (coveredBytes b s.plen.toNat)) s := rfl

@[simp] theorem rejectWord_eq (s : State) : rejectWord s = respond .illegalCommand 0 s := rfl

/-! ### Registers by number -/

theorem regOf_eq_some {num : Byte} {r : Reg} : regOf num = some r ↔ regNumber r = num := by
  constructor
  · intro h
    have := List.find?_some h
    simpa using this
  · rintro rfl
    cases r <;> decide

theorem regOf_eq_none {num : Byte} : regOf num = none ↔ ∀ r, regNumber r ≠ num := by
  constructor
  · intro h r hr
    rw [regOf_eq_some.mpr hr] at h
    exact absurd h (by simp)
  · intro h
    cases hr : regOf num with
    | none => rfl
    | some r => exact absurd (regOf_eq_some.mp hr) (h r)

/-! ### The environment's turn -/

/-- What a turn can lead to. -/
theorem withTurn_next {s t : State} {k : Option Nat → State → Result} (h : withTurn s k = .next t) :
    rxFits (nextTurn s).arrive s = true ∧
    (((nextTurn s).resetInput = true ∧ t = resetBlock (envMoves (nextTurn s) (dropTurn s))) ∨
     ((nextTurn s).resetInput = false ∧
       k (nextTurn s).fail (envMoves (nextTurn s) (dropTurn s)) = .next t)) := by
  unfold withTurn at h
  split at h <;> rename_i hf hr
  · cases h
  · exact ⟨hf, .inl ⟨hr, by simpa using h.symm⟩⟩
  · exact ⟨hf, .inr ⟨hr, h⟩⟩

/-- A turn in which the bytes fit and the reset input is not asserted. -/
theorem withTurn_of_ready {s : State} {k : Option Nat → State → Result}
    (hf : rxFits (nextTurn s).arrive s = true) (hr : (nextTurn s).resetInput = false) :
    withTurn s k = k (nextTurn s).fail (envMoves (nextTurn s) (dropTurn s)) := by
  simp [withTurn, hf, hr]

@[simp] theorem envMoves_default (s : State) : envMoves {} s = s := by
  simp [envMoves]

theorem dropTurn_of_nil {s : State} (h : s.env.turns = []) : dropTurn s = s := by
  obtain ⟨⟩ := s
  rename_i env _
  obtain ⟨⟩ := env
  simp only at h
  subst h
  rfl

theorem nextTurn_of_nil {s : State} (h : s.env.turns = []) : nextTurn s = {} := by
  simp [nextTurn, h]

/-! ### The pipe primitives -/

theorem pipeOpen_eq_some {f : Option Nat} {s s' : State} :
    pipeOpen f s = some s' ↔ f = none ∧ s' = pipeOpened s := by
  cases f <;> simp [pipeOpen, eq_comm]

theorem pipeOpen_eq_none {f : Option Nat} {s : State} : pipeOpen f s = none ↔ f ≠ none := by
  cases f <;> simp [pipeOpen]

/-- Closing an open pipe discards what is not yet on the line. -/
theorem pipeClosed_of_open {s : State} (h : s.opened = true) :
    pipeClosed s = { s with opened := false, txbuf := [] } := by
  simp [pipeClosed, h]

/-- Closing a closed pipe does nothing. -/
theorem pipeClosed_of_closed {s : State} (h : s.opened = false) : pipeClosed s = s := by
  obtain ⟨⟩ := s
  cases h
  rfl

theorem pipeClose_eq_some {f : Option Nat} {s s' : State} :
    pipeClose f s = some s' ↔ f = none ∧ s' = pipeClosed s := by
  cases f <;> simp [pipeClose, eq_comm]

theorem pipeClose_eq_none {f : Option Nat} {s : State} : pipeClose f s = none ↔ f ≠ none := by
  cases f <;> simp [pipeClose]

theorem pipeFails_eq_false {f : Option Nat} {s : State} :
    pipeFails f s = false ↔ s.opened = true ∧ f = none := by
  cases f <;> simp [pipeFails]

theorem pipeFails_eq_true {f : Option Nat} {s : State} :
    pipeFails f s = true ↔ s.opened = false ∨ f ≠ none := by
  cases f <;> simp [pipeFails]

theorem pipeAvail_eq_some {f : Option Nat} {s : State} {a : Nat} :
    pipeAvail f s = some a ↔ pipeFails f s = false ∧ a = s.rxq.length := by
  cases h : pipeFails f s <;> simp [pipeAvail, h, eq_comm]

theorem pipeAvail_eq_none {f : Option Nat} {s : State} :
    pipeAvail f s = none ↔ pipeFails f s = true := by
  cases h : pipeFails f s <;> simp [pipeAvail, h]

theorem pipeFlush_eq_some {f : Option Nat} {s s' : State} :
    pipeFlush f s = some s' ↔
      pipeFails f s = false ∧ s' = pipeFlushed s := by
  cases h : pipeFails f s <;> simp [pipeFlush, h, eq_comm]

theorem pipeFlush_eq_none {f : Option Nat} {s : State} :
    pipeFlush f s = none ↔ pipeFails f s = true := by
  cases h : pipeFails f s <;> simp [pipeFlush, h]

@[simp] theorem pipeWriteFailed_eq (f : Option Nat) (bs : List Byte) (s : State) :
    pipeWriteFailed f bs s = pipeWrite (bs.take (f.getD 0)) s := rfl

/-! ### Frames -/

@[simp] theorem length_suppliedPayload (s : State) : (suppliedPayload s).length = s.txlen.toNat := by
  simp [suppliedPayload]

@[simp] theorem length_fcsBytes (c : Half) : (fcsBytes c).length = 2 := rfl

@[simp] theorem length_withFcs (b : List Byte) : (withFcs b).length = b.length + 2 := by
  simp [withFcs]

theorem length_padPayload {p : List Byte} {plen : Nat} (h : p.length ≤ plen) :
    (padPayload p plen).length = plen := by
  simp [padPayload]; omega

theorem length_frameBody {fc seq : Byte} {sa da : Nibble} {p : List Byte} {plen : Nat}
    (h : p.length ≤ plen) : (frameBody fc seq sa da p plen).length = plen + 4 := by
  simp [frameBody, headerBytes, length_padPayload h]

theorem enc_of_fits {fc seq : Byte} {sa da : Nibble} {p : List Byte} {plen : Nat}
    (h : p.length ≤ plen) : enc fc seq sa da p plen = some (withFcs (frameBody fc seq sa da p plen)) := by
  simp [enc, Nat.not_lt.mpr h]

theorem enc_of_too_long {fc seq : Byte} {sa da : Nibble} {p : List Byte} {plen : Nat}
    (h : plen < p.length) : enc fc seq sa da p plen = none := by
  simp [enc, h]

theorem encodeTx_of_fits {s : State} (h : s.txlen.toNat ≤ s.plen.toNat) :
    encodeTx s = some (setCrc (crcAcc (txBody s)) (bufferFrame (withFcs (txBody s)) s)) := by
  rw [encodeTx, enc_of_fits (by simpa using h)]
  rfl

theorem encodeTx_of_too_long {s : State} (h : s.plen.toNat < s.txlen.toNat) : encodeTx s = none := by
  rw [encodeTx, enc_of_too_long (by simpa using h)]
  rfl

theorem length_txFrame {s : State} (h : s.txlen.toNat ≤ s.plen.toNat) :
    (withFcs (txBody s)).length = flen s := by
  simp [txBody, flen, length_frameBody (p := suppliedPayload s) (by simpa using h)]

theorem coveredBytes_withFcs {b : List Byte} {plen : Nat} (h : b.length = plen + 4) :
    coveredBytes (withFcs b) plen = b := by
  simp [coveredBytes, withFcs, headerLen, h, Nat.add_comm]

end Sys2Proof.Machine
end

