-- ==== Sys2Proof/Laws/Engine.lean ====
section
/-!
SUPPORT. What one pass of the link controller can do, said once (`Pass`, `atPoint_next`, `advance_next`), and how a
property of single passes becomes one of a whole command (`carryOn_induct`, `carryOn_next_of_stopped`).
-/

namespace Sys2Proof.Machine

/-- Everything a command in progress can do at its interleaving point, in the state `u` that the environment's turn left,
with the environment's choice `f` for the primitive called there: one case for each way, with its guards. -/
inductive Pass (f : Option Nat) (u : State) : State → Prop where
  | idle : u.ctl = .idle → Pass f u u
  | openFails : u.ctl = .run .opening → f ≠ none → Pass f u (respond .linkIo 0 u)
  | opens : u.ctl = .run .opening → f = none →
      Pass f u (respond .ok 0 (pipeOpened u))
  | closeFails : u.ctl = .run .closing → f ≠ none → Pass f u (respond .linkIo 0 u)
  | closes : u.ctl = .run .closing → f = none →
      Pass f u (respond .ok 0 (pipeClosed u))
  | writeFails (c : Caller) : u.ctl = .run (.write c) → pipeFails f u = true →
      Pass f u (respond .linkIo 0 (pipeWrite ((frameToSend u).take (f.getD 0)) u))
  | writes (c : Caller) : u.ctl = .run (.write c) → pipeFails f u = false →
      Pass f u (setCtl (.run (.flush c)) (pipeWrite (frameToSend u) u))
  | byteWriteFails (c : Caller) (i : Nat) : u.ctl = .run (.byteWrite c i) → pipeFails f u = true →
      Pass f u (respond .linkIo 0 (pipeWrite ([Memory.read u.fbuf i].take (f.getD 0)) u))
  | byteWrites (c : Caller) (i : Nat) : u.ctl = .run (.byteWrite c i) → pipeFails f u = false →
      Pass f u (setCtl (.run (.byteFlush c i)) (pipeWrite [Memory.read u.fbuf i] u))
  | byteFlushFails (c : Caller) (i : Nat) : u.ctl = .run (.byteFlush c i) → pipeFails f u = true →
      Pass f u (respond .linkIo 0 u)
  | byteFlushes (c : Caller) (i : Nat) : u.ctl = .run (.byteFlush c i) → pipeFails f u = false →
      Pass f u (setCtl (.wait (.byte c i)) (pipeFlushed u))
  | nextByte (c : Caller) (i : Nat) : u.ctl = .wait (.byte c i) → i + 1 < flen u →
      Pass f u (setCtl (.run (.byteWrite c (i + 1))) u)
  | lastByte (c : Caller) (i : Nat) : u.ctl = .wait (.byte c i) → flen u ≤ i + 1 →
      Pass f u (setCtl (.run (.flush c)) u)
  | flushFails (c : Caller) : u.ctl = .run (.flush c) → pipeFails f u = true →
      Pass f u (respond .linkIo 0 u)
  | sent (c : Caller) : u.ctl = .run (.flush c) → pipeFails f u = false →
      (c = .own ∨ reqAck u.txfc = false) →
      Pass f u (respond .ok 0 (pipeFlushed u))
  | sentSync : u.ctl = .run (.flush .sync) → pipeFails f u = false → reqAck u.txfc = true →
      Pass f u (setCtl (.run (.avail .sync)) (pipeFlushed u))
  | availFails (c : Caller) : u.ctl = .run (.avail c) → pipeFails f u = true →
      Pass f u (respond .linkIo 0 u)
  | noFrame : u.ctl = .run (.avail .own) → pipeFails f u = false → u.rxq.length < flen u →
      Pass f u (respond .noFrame 0 u)
  | timeout : u.ctl = .run (.avail .sync) → pipeFails f u = false → u.rxq.length < flen u →
      u.tmo.toNat < u.elapsed.toNat → Pass f u (respond .linkTimeout 0 u)
  | waits : u.ctl = .run (.avail .sync) → pipeFails f u = false → u.rxq.length < flen u →
      u.elapsed.toNat ≤ u.tmo.toNat → Pass f u (setCtl (.wait .poll) u)
  | available (c : Caller) : u.ctl = .run (.avail c) → pipeFails f u = false → flen u ≤ u.rxq.length →
      Pass f u (setCtl (.run (.read c)) u)
  | readFails (c : Caller) : u.ctl = .run (.read c) → pipeFails f u = true →
      Pass f u (respond .linkIo 0 u)
  | badFrame (c : Caller) (b : List Byte) (v : State) : u.ctl = .run (.read c) → pipeFails f u = false →
      flen u ≤ u.rxq.length → b = u.rxq.take (flen u) →
      v = checkFrame b (bufferFrame b (pipeDrop (flen u) u)) →
      fcsMatches b u.plen.toNat = false → Pass f u (respond .fcsMismatch 0 v)
  | foreignFrame (c : Caller) (b : List Byte) (v : State) : u.ctl = .run (.read c) →
      pipeFails f u = false → flen u ≤ u.rxq.length → b = u.rxq.take (flen u) →
      v = checkFrame b (bufferFrame b (pipeDrop (flen u) u)) →
      fcsMatches b u.plen.toNat = true → destOf b ≠ u.laddr →
      Pass f u (setCtl (.run (.avail c)) v)
  | delivers (c : Caller) (b : List Byte) (v : State) : u.ctl = .run (.read c) →
      pipeFails f u = false → flen u ≤ u.rxq.length → b = u.rxq.take (flen u) →
      v = deliver b (checkFrame b (bufferFrame b (pipeDrop (flen u) u))) →
      fcsMatches b u.plen.toNat = true → destOf b = u.laddr →
      (c = .own ∨ isReply v = true) →
      Pass f u (respond .ok (match c with
        | .own => 0
        | .sync => 1) v)
  | dropsTimeout (b : List Byte) (v : State) : u.ctl = .run (.read .sync) →
      pipeFails f u = false → flen u ≤ u.rxq.length → b = u.rxq.take (flen u) →
      v = deliver b (checkFrame b (bufferFrame b (pipeDrop (flen u) u))) →
      fcsMatches b u.plen.toNat = true → destOf b = u.laddr → isReply v = false →
      u.tmo.toNat < u.elapsed.toNat → Pass f u (respond .linkTimeout 0 (clearRxv v))
  | dropsWaits (b : List Byte) (v : State) : u.ctl = .run (.read .sync) →
      pipeFails f u = false → flen u ≤ u.rxq.length → b = u.rxq.take (flen u) →
      v = deliver b (checkFrame b (bufferFrame b (pipeDrop (flen u) u))) →
      fcsMatches b u.plen.toNat = true → destOf b = u.laddr → isReply v = false →
      u.elapsed.toNat ≤ u.tmo.toNat → Pass f u (setCtl (.wait .poll) (clearRxv v))
  | pollsAgain : u.ctl = .wait .poll →
      Pass f u (setCtl (.run (.avail .sync)) (countWait u))

theorem atOpen_next {f : Option Nat} {u t : State} (hc : u.ctl = .run .opening)
    (h : atOpen f u = .next t) : Pass f u t := by
  cases f with
  | none => cases h; exact .opens hc rfl
  | some n => cases h; exact .openFails hc (by simp)

theorem atClose_next {f : Option Nat} {u t : State} (hc : u.ctl = .run .closing)
    (h : atClose f u = .next t) : Pass f u t := by
  cases f with
  | none => cases h; exact .closes hc rfl
  | some n => cases h; exact .closeFails hc (by simp)

theorem atWrite_next {c : Caller} {f : Option Nat} {u t : State} (hc : u.ctl = .run (.write c))
    (h : atWrite c f u = .next t) : Pass f u t := by
  unfold atWrite at h
  split at h <;> rename_i hp
  · cases h; exact .writeFails c hc hp
  · cases h; exact .writes c hc hp

theorem atByteWrite_next {c : Caller} {i : Nat} {f : Option Nat} {u t : State}
    (hc : u.ctl = .run (.byteWrite c i)) (h : atByteWrite c i f u = .next t) : Pass f u t := by
  unfold atByteWrite at h
  split at h <;> rename_i hp
  · cases h; exact .byteWriteFails c i hc hp
  · cases h; exact .byteWrites c i hc hp

theorem atByteFlush_next {c : Caller} {i : Nat} {f : Option Nat} {u t : State}
    (hc : u.ctl = .run (.byteFlush c i)) (h : atByteFlush c i f u = .next t) : Pass f u t := by
  unfold atByteFlush at h
  split at h <;> rename_i hp
  · cases h; exact .byteFlushFails c i hc (pipeFlush_eq_none.mp hp)
  · obtain ⟨hf, rfl⟩ := pipeFlush_eq_some.mp hp
    cases h; exact .byteFlushes c i hc hf

theorem afterByte_next {c : Caller} {i : Nat} {f : Option Nat} {u t : State}
    (hc : u.ctl = .wait (.byte c i)) (h : afterByte c i u = .next t) : Pass f u t := by
  unfold afterByte at h
  split at h <;> rename_i hp
  · cases h; exact .nextByte c i hc (by simpa using hp)
  · cases h; exact .lastByte c i hc (by simpa using hp)

theorem atFlush_next {c : Caller} {f : Option Nat} {u t : State} (hc : u.ctl = .run (.flush c))
    (h : atFlush c f u = .next t) : Pass f u t := by
  unfold atFlush at h
  split at h <;> rename_i hp
  · cases h; exact .flushFails c hc (pipeFlush_eq_none.mp hp)
  · obtain ⟨hf, rfl⟩ := pipeFlush_eq_some.mp hp
    cases c with
    | own => cases h; exact .sent .own hc hf (.inl rfl)
    | sync =>
      unfold Sys2Proof.Machine.sent at h
      simp only at h
      split at h <;> rename_i hr
      · cases h; exact .sentSync hc hf hr
      · cases h; exact .sent .sync hc hf (.inr hr)

theorem noReply_next {s t : State} (h : noReply s = .next t) :
    (s.tmo.toNat < s.elapsed.toNat ∧ t = respond .linkTimeout 0 s) ∨
    (s.elapsed.toNat ≤ s.tmo.toNat ∧ t = setCtl (.wait .poll) s) := by
  unfold noReply at h
  split at h <;> rename_i he
  · exact .inl ⟨by simpa using he, by simpa using h.symm⟩
  · exact .inr ⟨by simpa using he, by simpa [pause] using h.symm⟩

theorem atAvail_next {c : Caller} {f : Option Nat} {u t : State} (hc : u.ctl = .run (.avail c))
    (h : atAvail c f u = .next t) : Pass f u t := by
  unfold atAvail at h
  split at h <;> rename_i hp
  · cases h; exact .availFails c hc (pipeAvail_eq_none.mp hp)
  · obtain ⟨hf, rfl⟩ := pipeAvail_eq_some.mp hp
    split at h <;> rename_i hl
    · have hl : u.rxq.length < flen u := by simpa using hl
      cases c with
      | own => cases h; exact .noFrame hc hf hl
      | sync =>
        obtain ⟨he, rfl⟩ | ⟨he, rfl⟩ := noReply_next h
        · exact .timeout hc hf hl he
        · exact .waits hc hf hl he
    · cases h; exact .available c hc hf (by simpa using hl)

theorem atRead_next {c : Caller} {f : Option Nat} {u t : State} (hc : u.ctl = .run (.read c))
    (h : atRead c f u = .next t) : Pass f u t := by
  unfold atRead at h
  split at h
  · rename_i hp; cases h; exact .readFails c hc hp
  · cases h
  rename_i hp hl
  have hl : flen u ≤ u.rxq.length := by simpa using hl
  unfold gotFrame at h
  simp only [pipeDrop_plen, pipeDrop_laddr] at h
  split at h <;> rename_i hm hd
  · cases h
    exact .badFrame c _ _ hc hp hl rfl rfl hd
  · have hd : destOf (u.rxq.take (flen u)) = u.laddr := by simpa using hd
    cases c with
    | own => cases h; exact .delivers .own _ _ hc hp hl rfl rfl hm hd (.inl rfl)
    | sync =>
      simp only [delivered] at h
      split at h <;> rename_i hr
      · cases h; exact .delivers .sync _ _ hc hp hl rfl rfl hm hd (.inr hr)
      · obtain ⟨he, rfl⟩ | ⟨he, rfl⟩ := noReply_next h
        · exact .dropsTimeout _ _ hc hp hl rfl rfl hm hd hr (by simpa using he)
        · exact .dropsWaits _ _ hc hp hl rfl rfl hm hd hr (by simpa using he)
  · have hd : destOf (u.rxq.take (flen u)) ≠ u.laddr := by simpa using hd
    cases h; exact .foreignFrame c _ _ hc hp hl rfl rfl hm hd

/-- Every next state of a pass is one of the cases of `Pass`. -/
theorem atPoint_next {f : Option Nat} {u t : State} (h : atPoint f u = .next t) : Pass f u t := by
  unfold atPoint at h
  split at h <;> rename_i hc
  · cases h; exact .idle hc
  · exact atOpen_next hc h
  · exact atClose_next hc h
  · exact atWrite_next hc h
  · exact atByteWrite_next hc h
  · exact atByteFlush_next hc h
  · exact atFlush_next hc h
  · exact atAvail_next hc h
  · exact atRead_next hc h
  · exact afterByte_next hc h
  · cases h; exact .pollsAgain hc

/-- What a pass with the environment's turn can lead to: the reset input abandons the command, or the block acts. -/
theorem advance_next {s t : State} (h : advance s = .next t) :
    rxFits (nextTurn s).arrive s = true ∧
    (((nextTurn s).resetInput = true ∧ t = resetBlock (envMoves (nextTurn s) (dropTurn s))) ∨
     ((nextTurn s).resetInput = false ∧
       Pass (nextTurn s).fail (envMoves (nextTurn s) (dropTurn s)) t)) := by
  obtain ⟨hf, ⟨hr, ht⟩ | ⟨hr, ht⟩⟩ := withTurn_next h
  · exact ⟨hf, .inl ⟨hr, ht⟩⟩
  · exact ⟨hf, .inr ⟨hr, atPoint_next ht⟩⟩

/-! ### Whole commands -/

theorem canAdvance_iff {s : State} : canAdvance s = true ↔ s.ctl ≠ .idle ∧ held s = false := by
  simp [canAdvance]

/-- A command that cannot be carried on stays where it is. -/
theorem carryOn_of_stopped {n : Nat} {s : State} (h : canAdvance s = false) : carryOn n s = .next s := by
  cases n <;> simp [carryOn, h]

theorem carryOn_succ_next {n : Nat} {s t : State} (hc : canAdvance s = true) (h : advance s = .next t) :
    carryOn (n + 1) s = carryOn n t := by
  simp [carryOn, hc, h]

/-- A property that every pass keeps is kept by a whole command. -/
theorem carryOn_induct {P : State → Prop}
    (hstep : ∀ s t, P s → canAdvance s = true → advance s = .next t → P t)
    {n : Nat} {s t : State} (hs : P s) (h : carryOn n s = .next t) : P t := by
  induction n generalizing s with
  | zero => cases h; exact hs
  | succ n ih =>
    unfold carryOn at h
    split at h <;> rename_i hc
    · cases h; exact hs
    · split at h <;> rename_i s' ha
      · exact ih (hstep s s' hs hc ha) h
      · cases h
      · cases h

/-- Once a command has stopped, more passes allowed change nothing. -/
theorem carryOn_next_of_stopped {n m : Nat} {s t : State} (h : carryOn n s = .next t)
    (ht : canAdvance t = false) (hm : n ≤ m) : carryOn m s = .next t := by
  induction n generalizing s m with
  | zero =>
    cases h
    exact carryOn_of_stopped ht
  | succ n ih =>
    obtain ⟨m, rfl⟩ : ∃ k, m = k + 1 := ⟨m - 1, by omega⟩
    unfold carryOn at h ⊢
    split at h <;> rename_i hc
    · cases h
      rfl
    · split at h <;> rename_i s' ha
      · exact ih h (by omega)
      · cases h
      · cases h

end Sys2Proof.Machine
end

