-- ==== Sys2Proof/Laws/PerInstr.lean ====
section
/-!
SUPPORT. A law stated for every command, one lemma per constructor: the word of a command carries that command's opcode
in its low byte, whatever the operands (30_encoding.md R73).
-/

namespace Sys2Proof.Laws.EncodedOpcode

/-- The opcode of a command (30_encoding.md R73). -/
def opcode : Instr → Byte
  | .sysReset => 0x01
  | .regRd _ => 0x02
  | .regWr _ _ => 0x03
  | .crcInit => 0x10
  | .crcUpd _ => 0x11
  | .crcFin => 0x12
  | .frmEnc => 0x20
  | .frmDec => 0x21
  | .frmErrc _ => 0x22
  | .txpWr _ _ => 0x23
  | .rxpRd _ => 0x24
  | .fbWr _ _ => 0x25
  | .fbRd _ => 0x26
  | .lnkOpen => 0x30
  | .lnkClose => 0x31
  | .lnkSend => 0x32
  | .lnkPoll => 0x33
  | .lnkSync => 0x34

/-- The low byte of a command's word is its opcode. -/
def Statement (i : Instr) : Prop := opField (encode i) = opcode i

theorem low_byte (imm : Half) (a8 op : Byte) : opField (packWord imm a8 op) = op := by
  ext k hk
  rw [← BitVec.getLsbD_eq_getElem, ← BitVec.getLsbD_eq_getElem]
  simp only [opField, packWord, BitVec.getLsbD_extractLsb', BitVec.getLsbD_append, Nat.zero_add]
  simp [hk, show k < 16 by omega]

theorem sysReset : Statement (.sysReset) := low_byte _ _ _
theorem regRd (num : Byte) : Statement (.regRd num) := low_byte _ _ _
theorem regWr (num : Byte) (v : Half) : Statement (.regWr num v) := low_byte _ _ _
theorem crcInit : Statement (.crcInit) := low_byte _ _ _
theorem crcUpd (d : Byte) : Statement (.crcUpd d) := low_byte _ _ _
theorem crcFin : Statement (.crcFin) := low_byte _ _ _
theorem frmEnc : Statement (.frmEnc) := low_byte _ _ _
theorem frmDec : Statement (.frmDec) := low_byte _ _ _
theorem frmErrc (fc : Byte) : Statement (.frmErrc fc) := low_byte _ _ _
theorem txpWr (idx : Byte) (v : Half) : Statement (.txpWr idx v) := low_byte _ _ _
theorem rxpRd (idx : Byte) : Statement (.rxpRd idx) := low_byte _ _ _
theorem fbWr (idx : Byte) (v : Half) : Statement (.fbWr idx v) := low_byte _ _ _
theorem fbRd (idx : Byte) : Statement (.fbRd idx) := low_byte _ _ _
theorem lnkOpen : Statement (.lnkOpen) := low_byte _ _ _
theorem lnkClose : Statement (.lnkClose) := low_byte _ _ _
theorem lnkSend : Statement (.lnkSend) := low_byte _ _ _
theorem lnkPoll : Statement (.lnkPoll) := low_byte _ _ _
theorem lnkSync : Statement (.lnkSync) := low_byte _ _ _

end Sys2Proof.Laws.EncodedOpcode
end

