-- ==== Sys2Proof/Laws/Step.lean ====
section
/-!
SUPPORT. What a step is in each of its four cases, said once: the proofs cite these lemmas and do not unfold `step`.
-/

namespace Sys2Proof.Machine

/-- While a command is in progress, a step goes on with it. -/
theorem step_of_busy {s : State} (h : s.ctl ≠ .idle) : step s = resume s := by
  unfold step
  split <;> first | contradiction | rfl

/-- The idle block is presented a word. -/
theorem step_of_word {s : State} {w : Word} {rest : List (Option Word)} (h : s.ctl = .idle)
    (hs : s.script = some w :: rest) : step s = present w { s with script := rest } := by
  unfold step
  rw [h, hs]

/-- The idle block is presented no word. -/
theorem step_of_no_word {s : State} (h : s.ctl = .idle) (hs : s.script = [] ∨ ∃ rest, s.script = none :: rest) :
    step s = idleStep { s with script := s.script.tail } := by
  obtain hs | ⟨rest, hs⟩ := hs
  · have he : ({ s with script := s.script.tail } : State) = s := by
      obtain ⟨⟩ := s
      cases hs
      rfl
    rw [he]
    unfold step
    rw [h, hs]
  · unfold step
    rw [h, hs]
    rfl

/-- What an idle step does when the bytes fit: the environment's moves, and the reset if it is asserted. -/
theorem idleStep_eq {s : State} (hf : rxFits (nextTurn s).arrive s = true) :
    idleStep s = .next (bif (nextTurn s).resetInput then resetBlock (envMoves (nextTurn s) (dropTurn s))
      else envMoves (nextTurn s) (dropTurn s)) := by
  cases hr : (nextTurn s).resetInput <;> simp [idleStep, withTurn, hf, hr]

end Sys2Proof.Machine
end

