-- ==== Sys2Proof/Tests/Slice0.lean ====
section
/-!
SUPPORT. Tests on fixed values. Every expected value is the spec's: its encodings (30_encoding.md), its examples and its
test vectors (95_test_vectors.md), named in the comment of each test. Then, for every obligation with hypotheses, a
concrete state that meets them all.
-/

namespace Sys2Proof.Tests

open Sys2Proof.Machine

-- One theorem at a time: many kernel evaluations waiting for one another would each hold a thread.
set_option Elab.async false

/-! ### WellFormed refuses -/

/-- 0x09 names no register (10_state.md R12). -/
theorem test_wf_regRd : WellFormed (.regRd 0x09) = false ∧ WellFormed (.regRd 0x08) = true := by decide

/-- `STATUS` is read-only (43_system.md R132). -/
theorem test_wf_regWr_readOnly : WellFormed (.regWr 0x06 0) = false := by decide

/-- 0x31 names no register (10_state.md R12). -/
theorem test_wf_regWr_number : WellFormed (.regWr 0x31 0) = false ∧ WellFormed (.regWr 0x30 0) = true := by decide

/-- `PLEN` is at most 249, and the operand is not reduced first (10_state.md R14). -/
theorem test_wf_regWr_plen : WellFormed (.regWr 0x01 250) = false ∧ WellFormed (.regWr 0x01 249) = true ∧
    WellFormed (.regWr 0x01 256) = false := by decide

/-- The buffer sizes (10_state.md R25). -/
theorem test_wf_txpWr : WellFormed (.txpWr 249 0) = false ∧ WellFormed (.txpWr 248 0) = true := by decide
theorem test_wf_rxpRd : WellFormed (.rxpRd 249) = false ∧ WellFormed (.rxpRd 248) = true := by decide
theorem test_wf_fbWr : WellFormed (.fbWr 255 0) = false ∧ WellFormed (.fbWr 254 0) = true := by decide
theorem test_wf_fbRd : WellFormed (.fbRd 255) = false ∧ WellFormed (.fbRd 254) = true := by decide

/-! ### Decoding: words written out from the spec's encodings (30_encoding.md R71, R73) -/

theorem test_decode_sysReset : decode 0x00000001 = .ok .sysReset := by rfl
/-- `REG.RD TXSA` (V70). -/
theorem test_decode_regRd : decode 0x00001202 = .ok (.regRd 0x12) := by rfl
/-- `REG.WR TXSA, 17` (V70). -/
theorem test_decode_regWr : decode 0x00111203 = .ok (.regWr 0x12 17) := by rfl
theorem test_decode_crcInit : decode 0x00000010 = .ok .crcInit := by rfl
/-- `CRC.UPD 0x31` (30_encoding.md R76). -/
theorem test_decode_crcUpd : decode 0x00003111 = .ok (.crcUpd 0x31) := by rfl
theorem test_decode_crcFin : decode 0x00000012 = .ok .crcFin := by rfl
theorem test_decode_frmEnc : decode 0x00000020 = .ok .frmEnc := by rfl
theorem test_decode_frmDec : decode 0x00000021 = .ok .frmDec := by rfl
/-- `FRM.ERRC 0xC4` (95_test_vectors.md 2.2). -/
theorem test_decode_frmErrc : decode 0x0000C422 = .ok (.frmErrc 0xC4) := by rfl
/-- `TXP.WR 248, 0x1234` (95_test_vectors.md 2.2). -/
theorem test_decode_txpWr : decode 0x1234F823 = .ok (.txpWr 248 0x1234) := by rfl
/-- `RXP.RD 248` (95_test_vectors.md 2.2). -/
theorem test_decode_rxpRd : decode 0x0000F824 = .ok (.rxpRd 248) := by rfl
/-- `FB.WR 4, 0x05` (41_frame_codec.md R98). -/
theorem test_decode_fbWr : decode 0x00050425 = .ok (.fbWr 4 5) := by rfl
/-- `FB.RD 254` (95_test_vectors.md 2.2). -/
theorem test_decode_fbRd : decode 0x0000FE26 = .ok (.fbRd 254) := by rfl
theorem test_decode_lnkOpen : decode 0x00000030 = .ok .lnkOpen := by rfl
theorem test_decode_lnkClose : decode 0x00000031 = .ok .lnkClose := by rfl
theorem test_decode_lnkSend : decode 0x00000032 = .ok .lnkSend := by rfl
theorem test_decode_lnkPoll : decode 0x00000033 = .ok .lnkPoll := by rfl
theorem test_decode_lnkSync : decode 0x00000034 = .ok .lnkSync := by rfl

/-- V80 and V82: opcodes that are not assigned. -/
theorem test_decode_unknown :
    decode 0x00000000 = .error (.unknownOpcode 0) ∧ decode 0x00000035 = .error (.unknownOpcode 0x35) := ⟨rfl, rfl⟩

/-- V84 and V85: a field that must be zero. -/
theorem test_decode_mustBeZero :
    decode 0x00010010 = .error (.fieldNotZero 0x10) ∧ decode 0x01000011 = .error (.fieldNotZero 0x11) := ⟨rfl, rfl⟩

/-! ### One command each -/

/-- What the response to a word is, with some number read off the state after it. -/
def answer (w : Word) (s : State) (look : State → Nat) : Option (ResultCode × Nat × Nat) :=
  match step { s with script := [some w] } with
  | .next t => t.response.map fun r => (r.rc, r.val.toNat, look t)
  | .fault _ => none
  | .refused _ => none

/-- V7B: `LADDR` = 1, `SEQCNT` = 77, an open pipe. -/
theorem test_sysReset :
    answer 0x00000001 { State.reset with laddr := 1, seqcnt := 77, opened := true } (fun t => t.seqcnt.toNat) =
      some (.ok, 0, 0) := by decide +kernel

/-- V7C and V87. -/
theorem test_regRd : answer 0x00000702 State.reset (fun _ => 0) = some (.ok, 0xFFFF, 0) ∧
    answer 0x00000902 State.reset (fun _ => 0) = some (.illegalOperand, 0, 0) := by decide +kernel

/-- V70: `sa` = 17 stores 1. -/
theorem test_regWr : answer 0x00111203 State.reset (fun t => t.txsa.toNat) = some (.ok, 0, 1) := by decide +kernel

/-- V79 and V88. -/
theorem test_regWr_refused :
    answer 0x00FA0103 State.reset (fun t => t.plen.toNat) = some (.illegalOperand, 0, 8) ∧
    answer 0x00000603 State.reset (fun t => t.plen.toNat) = some (.illegalOperand, 0, 8) := by decide +kernel

/-- 40_crc.md R83, its example. -/
theorem test_crcInit :
    answer 0x00000010 { State.reset with crc := 0x1234 } (fun t => t.crc.toNat) = some (.ok, 0, 0xFFFF) := by
  decide +kernel

/-- 40_crc.md R84, its example. -/
theorem test_crcUpd : answer 0x00003111 State.reset (fun t => t.crc.toNat) = some (.ok, 0, 0x947E) := by decide +kernel

/-- 40_crc.md R85, its example. -/
theorem test_crcFin :
    answer 0x00000012 { State.reset with crc := 0x4B37 } (fun t => t.crc.toNat) = some (.ok, 0xB4C8, 0x4B37) := by
  decide +kernel

/-- The bytes of a buffer, for the tests. -/
def bufferOf (b : List Byte) : Memory := Memory.writeAll [] 0 b

/-- V24: `PLEN` = 1; the last byte of the frame is 0x31, `CRC` is 0xCEF4. -/
def encState : State :=
  { State.reset with
    plen := 1, txfc := 0x04, txseq := 0x07, txsa := 2, txda := 1, txlen := 1, txpay := bufferOf [0xAA] }

theorem test_frmEnc : answer 0x00000020 encState (fun t => (Memory.read t.fbuf 6).toNat * 0x10000 + t.crc.toNat) =
    some (.ok, 0, 0x31CEF4) := by decide +kernel

/-- V25c. -/
theorem test_frmEnc_tooLong : answer 0x00000020 { encState with txlen := 2 } (fun t => t.fblen.toNat) =
    some (.payloadTooLong, 0, 0) := by decide +kernel

/-- V44: the bytes of V24 in the frame buffer. -/
def decState : State :=
  { State.reset with plen := 1, fblen := 7, fbuf := bufferOf [0x04, 0x07, 0x12, 0x00, 0xAA, 0x0B, 0x31] }

theorem test_frmDec :
    answer 0x00000021 decState
      (fun t => t.rxfcs.toNat * 0x10000 + t.rxsa.toNat * 0x1000 + t.rxda.toNat * 0x100 + (Memory.read t.rxpay 0).toNat) =
      some (.ok, 0, 0x310B21AA) := by decide +kernel

/-- V45. -/
theorem test_frmDec_length : answer 0x00000021 { decState with plen := 2, rxv := true } (fun t => t.rxv.toNat) =
    some (.lengthMismatch, 0, 0) := by decide +kernel

/-- 95_test_vectors.md 2.2: `FRM.ERRC` of 0x84 and 0xC4. -/
theorem test_frmErrc : answer 0x00008422 State.reset (fun _ => 0) = some (.ok, 2, 0) ∧
    answer 0x0000C422 State.reset (fun _ => 0) = some (.ok, 3, 0) := by decide +kernel

/-- 95_test_vectors.md 2.2: `TXP.WR 0, 0x1234` stores 0x34. -/
theorem test_txpWr : answer 0x12340023 State.reset (fun t => (Memory.read t.txpay 0).toNat) = some (.ok, 0, 0x34) := by
  decide +kernel

/-- 95_test_vectors.md 2.2. -/
theorem test_rxpRd : answer 0x0000F824 State.reset (fun _ => 0) = some (.ok, 0, 0) ∧
    answer 0x0000F924 State.reset (fun _ => 0) = some (.illegalOperand, 0, 0) := by decide +kernel

/-- 41_frame_codec.md R98. -/
theorem test_fbWr : answer 0x00050425 State.reset (fun t => (Memory.read t.fbuf 4).toNat) = some (.ok, 0, 5) ∧
    answer 0x0000FF25 State.reset (fun _ => 0) = some (.illegalOperand, 0, 0) := by decide +kernel

/-- 41_frame_codec.md R99, on the bytes of V24. -/
theorem test_fbRd : answer 0x00000626 decState (fun _ => 0) = some (.ok, 0x31, 0) ∧
    answer 0x0000FF26 decState (fun _ => 0) = some (.illegalOperand, 0, 0) := by decide +kernel

/-- 42_link.md R110: after reset `LNK.OPEN` returns `OK` and `STATUS` reads 0x0001. -/
theorem test_lnkOpen : answer 0x00000030 State.reset (fun t => (statusWord t).toNat) = some (.ok, 0, 1) := by
  decide +kernel

/-- 42_link.md R111: `STATUS` = 0x0003 becomes 0x0002. -/
theorem test_lnkClose :
    answer 0x00000031 { State.reset with opened := true, rxv := true } (fun t => (statusWord t).toNat) =
      some (.ok, 0, 2) := by decide +kernel

/-- 42_link.md R111: closing a closed pipe does nothing, also to bytes that a failed write left. -/
theorem test_lnkClose_closed :
    answer 0x00000031 { State.reset with txbuf := [1, 2, 3] } (fun t => t.txbuf.length) = some (.ok, 0, 3) := by
  decide +kernel

/-- The byte sequence read as a number, the first byte highest. -/
def asNumber (b : List Byte) : Nat := b.foldl (fun n x => 256 * n + x.toNat) 0

/-- An open pipe, `PLEN` = 0. -/
def openState : State := { State.reset with plen := 0, opened := true }

/-- V61, its first frame. -/
theorem test_lnkSend :
    answer 0x00000032 { openState with seqcnt := 0xFE } (fun t => asNumber t.wire * 0x100 + t.seqcnt.toNat) =
      some (.ok, 0, 0x00FE00009E2BFF) := by decide +kernel

/-- V62: with a per-byte delay the same bytes. -/
theorem test_lnkSend_throttled : answer 0x00000032 { openState with txdly := 3 } (fun t => asNumber t.wire) =
    some (.ok, 0, 0x00000000FFDB) := by decide +kernel

/-- The frame of V22, for address 0. -/
def frame : List Byte := [0x00, 0x00, 0x00, 0x00, 0xFF, 0xDB]

/-- V53 and V52 with the frame of V22 (`PLEN` = 0): skipped with `LADDR` = 1, delivered with `LADDR` = 0. -/
theorem test_lnkPoll :
    answer 0x00000033 { openState with laddr := 1, rxq := frame } (fun t => t.rxq.length) = some (.noFrame, 0, 0) ∧
    answer 0x00000033 { openState with rxq := frame } (fun t => t.rxfcs.toNat) = some (.ok, 0, 0xDBFF) := by
  decide +kernel

/-- V57: a closed pipe. -/
theorem test_lnkPoll_closed : answer 0x00000033 State.reset (fun t => t.rxv.toNat) = some (.linkIo, 0, 0) := by
  decide +kernel

/-- V67: `TMO` = 10 or 11 and no reply: `ELAPSED` = 20. -/
theorem test_lnkSync_timeout :
    answer 0x00000034 { openState with txfc := 0x02, tmo := 10 } (fun t => t.elapsed.toNat) = some (.linkTimeout, 0, 20) ∧
    answer 0x00000034 { openState with txfc := 0x02, tmo := 11 } (fun t => t.elapsed.toNat) =
      some (.linkTimeout, 0, 20) := by decide +kernel

/-- V65, with the frame of V22 waiting: without REQ_ACK no reply is looked for. -/
theorem test_lnkSync_noReply : answer 0x00000034 { openState with rxq := frame } (fun t => t.rxq.length) =
    some (.ok, 0, 6) := by decide +kernel

/-- V80: an illegal word. -/
theorem test_illegal : answer 0x00000000 State.reset (fun _ => 0) = some (.illegalCommand, 0, 0) := by decide +kernel

/-! ### The hypotheses of the obligations can be met

One theorem for each obligation that has hypotheses, named after it: a concrete state and operands that meet all the
hypotheses of each of its clauses together, at a boundary value where the clause has a range. -/

/-- The next state of a result, if it is one. -/
def nextOf : Result → State
  | .next t => t
  | .fault _ => State.reset
  | .refused _ => State.reset

/-- The result is a next state. -/
def isNext : Result → Bool
  | .next _ => true
  | .fault _ => false
  | .refused _ => false

theorem eq_next {r : Result} (h : isNext r = true) : r = .next (nextOf r) := by
  cases r with
  | next t => rfl
  | fault f => cases h
  | refused f => cases h

/-- A command word on the port. -/
def withWord (w : Word) : State := { State.reset with script := [some w] }

theorem witness_IllegalWordChangesNothing :
    (withWord 0x00000035).ctl = .idle ∧ (withWord 0x00000035).script = some 0x00000035 :: [] ∧
    IllegalWord 0x00000035 ∧ IllegalWord 0x00000110 ∧ IllegalWord 0x01000011 := by
  refine ⟨rfl, rfl, ?_, ?_, ?_⟩ <;> decide

theorem witness_StepRunsTheDecodedCommand :
    (withWord 0x00000034).ctl = .idle ∧ (withWord 0x00000034).script = some 0x00000034 :: [] ∧
    decode 0x00000034 = .ok .lnkSync := ⟨rfl, rfl, rfl⟩

/-- An open pipe with a poll in progress. -/
def polling : State := { openState with ctl := .run (.avail .own) }

theorem witness_NoWordIsTakenWhileBusy :
    polling.ctl ≠ .idle ∧ step polling = .next (nextOf (step polling)) ∧
    exec .lnkPoll openState = .next (nextOf (exec .lnkPoll openState)) :=
  ⟨by decide, eq_next (by decide +kernel), eq_next (by decide +kernel)⟩

theorem witness_ResetGivesEveryResetValue :
    (resetBlock encState = resetBlock encState ∨ resetBlock encState = State.reset) ∧
    (State.reset = resetBlock encState ∨ State.reset = State.reset) := ⟨.inl rfl, .inr rfl⟩

/-- The reset input during a poll. -/
def resetTurn : EnvTurn := { arrive := [0x55], drain := 1, resetInput := true }

def resetDuringPoll : State :=
  { polling with txbuf := [1, 2], env := { turns := [resetTurn], openEnded := true } }

theorem witness_ResetInputAbandonsTheCommand :
    resetDuringPoll.ctl ≠ .idle ∧ resetDuringPoll.env.turns = resetTurn :: [] ∧ resetTurn.resetInput = true ∧
    rxFits resetTurn.arrive resetDuringPoll = true := by decide +kernel

/-- The idle block, no word presented, in an environment that makes the turn `turn`. -/
def idleAt (turn : EnvTurn) (script : List (Option Word)) : State :=
  { openState with txbuf := [1, 2], script := script, env := { turns := [turn], openEnded := false } }

theorem witness_ResetInputAbandonsTheCommand_idle :
    ((idleAt resetTurn []).ctl = .idle ∧ (idleAt resetTurn []).script = [] ∧
      rxFits (nextTurn (idleAt resetTurn [])).arrive (idleAt resetTurn []) = true ∧
      (nextTurn (idleAt resetTurn [])).resetInput = true) ∧
    ((idleAt { arrive := [7], drain := 2 } [none, some 0x10]).ctl = .idle ∧
      (idleAt { arrive := [7], drain := 2 } [none, some 0x10]).script = none :: [some 0x10] ∧
      rxFits (nextTurn (idleAt { arrive := [7], drain := 2 } [none, some 0x10])).arrive
        (idleAt { arrive := [7], drain := 2 } [none, some 0x10]) = true ∧
      (nextTurn (idleAt { arrive := [7], drain := 2 } [none, some 0x10])).resetInput = false) := by decide +kernel

theorem witness_RegRdAnswersTheRegister :
    (0x09 : Byte) ∉ ([0x00, 0x01, 0x02, 0x03, 0x04, 0x05, 0x06, 0x07, 0x08, 0x10, 0x11, 0x12, 0x13, 0x14,
        0x20, 0x21, 0x22, 0x23, 0x24, 0x30] : List Byte) ∧
    (0x31 : Byte) ∉ ([0x00, 0x01, 0x02, 0x03, 0x04, 0x05, 0x06, 0x07, 0x08, 0x10, 0x11, 0x12, 0x13, 0x14,
        0x20, 0x21, 0x22, 0x23, 0x24, 0x30] : List Byte) := by decide

theorem witness_RegWrStoresTheReducedValue :
    (249 : Half).toNat ≤ 249 ∧ 249 < (250 : Half).toNat ∧
    (0x06 : Byte) ∉ ([0x00, 0x01, 0x02, 0x03, 0x04, 0x05, 0x07, 0x10, 0x11, 0x12, 0x13, 0x14, 0x30] : List Byte) ∧
    (0xFF : Byte) ∉ ([0x00, 0x01, 0x02, 0x03, 0x04, 0x05, 0x07, 0x10, 0x11, 0x12, 0x13, 0x14, 0x30] : List Byte) := by
  decide

theorem witness_IllegalOperandExactlyWhenOutOfRange :
    WellFormed (.txpWr 249 0) = false ∧ WellFormed (.txpWr 248 0) = true ∧
    exec (.txpWr 248 0) State.reset = .next (nextOf (exec (.txpWr 248 0) State.reset)) :=
  ⟨by decide, by decide, eq_next (by decide +kernel)⟩

theorem witness_GeneratorFormsAgree : ([0x41, 0x00] : List Byte).length = ([0x00, 0xFF] : List Byte).length := rfl

theorem witness_ValidFramesLeaveTheResidue : frame.length = 0 + 6 ∧ fcsMatches frame 0 = true := by decide +kernel

/-- The frame of V22 with its last two bytes altered. -/
def damaged : List Byte := [0x00, 0x00, 0x00, 0x00, 0xFE, 0x5B]

theorem witness_SixteenBitBurstIsCaught :
    frame.length = 0 + 6 ∧ damaged.length = 0 + 6 ∧ frame ≠ damaged ∧
    (∀ j, (j < 32 ∨ 32 + 16 ≤ j) → (bitsOf frame)[j]? = (bitsOf damaged)[j]?) ∧ fcsMatches frame 0 = true := by
  refine ⟨rfl, rfl, by decide, fun j hj => ?_, by decide +kernel⟩
  rcases hj with hj | hj
  · revert j; decide
  · rw [List.getElem?_eq_none (by simpa [bitsOf, frame] using hj),
      List.getElem?_eq_none (by simpa [bitsOf, damaged] using hj)]

theorem witness_EncLaysOutTheFrame :
    1 < ([1, 2] : List Byte).length ∧ ([1, 2] : List Byte).length ≤ 2 := by decide

theorem witness_DecTestsLengthThenChecksum :
    (frame ++ [0]).length ≠ 0 + 6 ∧ damaged.length = 0 + 6 ∧
    crc16 (damaged.take (0 + 4)) ≠
      BitVec.ofNat 16 ((byteAt damaged (0 + 4)).toNat + 256 * (byteAt damaged (0 + 5)).toNat) ∧
    frame.length = 0 + 6 ∧
    crc16 (frame.take (0 + 4)) = BitVec.ofNat 16 ((byteAt frame (0 + 4)).toNat + 256 * (byteAt frame (0 + 5)).toNat) := by
  decide +kernel

/-- What the frame of V22 carries: everything 0. -/
def frameFields : Frame := ⟨0, 0, 0, 0, []⟩

theorem dec_frame : dec frame 0 = .ok (frameFields, 0xDBFF) := by decide +kernel

theorem witness_DecUndoesEnc :
    ([1, 2] : List Byte).length ≤ 2 ∧ dec frame 0 = .ok (frameFields, 0xDBFF) := ⟨by decide, dec_frame⟩

theorem witness_OneAlteredByteIsCaught :
    enc 0 0 0 0 [] 0 = some frame ∧ 5 < 0 + 6 ∧ (0xDA : Byte) ≠ byteAt frame 5 ∧ (frame ++ [0]).length ≠ 0 + 6 := by
  refine ⟨by decide +kernel, by decide, by decide, by decide⟩

theorem witness_FrmEncSerializesTheTxFrame :
    (State.plen { encState with txlen := 2 }).toNat < (State.txlen { encState with txlen := 2 }).toNat ∧
    encState.txlen.toNat ≤ encState.plen.toNat ∧ encState.plen.toNat ≤ 249 ∧ buffersWf encState = true := by
  decide +kernel

/-- The state of V44 with its checksum damaged. -/
def decDamaged : State := { decState with fbuf := Memory.write decState.fbuf 6 0x30 }

theorem witness_FrmDecDeliversTheBufferedFrame :
    State.reset.fblen.toNat ≠ State.reset.plen.toNat + 6 ∧
    decDamaged.fblen.toNat = decDamaged.plen.toNat + 6 ∧
    crcAcc ((Memory.readAll decDamaged.fbuf 0 7).take (1 + 4)) ^^^ 0xFFFF ≠
      BitVec.ofNat 16 ((byteAt (Memory.readAll decDamaged.fbuf 0 7) 5).toNat +
        256 * (byteAt (Memory.readAll decDamaged.fbuf 0 7) 6).toNat) ∧
    decState.fblen.toNat = decState.plen.toNat + 6 ∧
    crcAcc ((Memory.readAll decState.fbuf 0 7).take (1 + 4)) ^^^ 0xFFFF =
      BitVec.ofNat 16 ((byteAt (Memory.readAll decState.fbuf 0 7) 5).toNat +
        256 * (byteAt (Memory.readAll decState.fbuf 0 7) 6).toNat) ∧
    buffersWf decState = true := by decide +kernel

theorem witness_FrmDecUndoesFrmEnc :
    encState.txlen.toNat ≤ encState.plen.toNat ∧ encState.plen.toNat ≤ 249 ∧ buffersWf encState = true := by
  decide +kernel

theorem witness_TxpWrStoresOneByte :
    248 < (249 : Byte).toNat ∧ (248 : Byte).toNat ≤ 248 ∧ buffersWf encState = true := by decide +kernel

theorem witness_RxpRdAnswersOneByte : 248 < (249 : Byte).toNat ∧ (248 : Byte).toNat ≤ 248 := by decide

theorem witness_FbWrStoresOneByte :
    (255 : Byte).toNat = 255 ∧ (254 : Byte).toNat ≤ 254 ∧ buffersWf decState = true := by decide +kernel

theorem witness_FbRdAnswersOneByte : (255 : Byte).toNat = 255 ∧ (254 : Byte).toNat ≤ 254 := by decide

/-- An environment that delivers two bytes, takes one from `TXBUF`, and lets the primitive called there fail or not. -/
def oneTurn (fail : Option Nat) : Env :=
  { turns := [{ arrive := [7, 8], drain := 1, fail := fail }], openEnded := true }

/-- A pipe with a byte in `TXBUF`, closed or open, in that environment. -/
def atTurn (opened : Bool) (fail : Option Nat) : State :=
  { State.reset with plen := 0, opened := opened, txbuf := [9], env := oneTurn fail }

theorem witness_LnkOpenOpensThePipeAfresh :
    (Ready (atTurn true none) ∧ (nextTurn (atTurn true none)).fail = none) ∧
    (Ready (atTurn false (some 0)) ∧ (nextTurn (atTurn false (some 0))).fail ≠ none) := by decide +kernel

theorem witness_LnkCloseClosesThePipe :
    (Ready (atTurn true none) ∧ (atTurn true none).opened = true ∧ (nextTurn (atTurn true none)).fail = none) ∧
    (Ready (atTurn false none) ∧ (atTurn false none).opened = false ∧ (nextTurn (atTurn false none)).fail = none) ∧
    (Ready (atTurn true (some 0)) ∧ (nextTurn (atTurn true (some 0))).fail ≠ none) := by decide +kernel

theorem witness_TooLongPayloadStopsASend :
    (State.plen { encState with txlen := 2 }).toNat < (State.txlen { encState with txlen := 2 }).toNat := by
  decide +kernel

theorem witness_SendOnAClosedPipeFails :
    (atTurn false (some 3)).opened = false ∧ Ready (atTurn false (some 3)) ∧
    (atTurn false (some 3)).plen.toNat ≤ 249 ∧ buffersWf (atTurn false (some 3)) = true ∧
    sendFrame (atTurn false (some 3)) = some frame := by decide +kernel

/-- An open pipe and two turns that deliver and drain, then nothing. -/
def benign : State :=
  { openState with
    txbuf := [9], env := { turns := [{ arrive := [7], drain := 2 }, { drain := 1 }], openEnded := false } }

theorem witness_SendPutsTheFrameOnTheLine :
    (benign.opened = true ∧ Benign benign ∧ benign.plen.toNat ≤ 249 ∧ buffersWf benign = true ∧
      sendFrame benign = some frame) ∧
    Benign { benign with txdly := 3 } ∧ sendFrame { benign with txdly := 3 } = some frame := by decide +kernel

theorem witness_SendAnsweredOkMeansOnTheLine :
    benign.plen.toNat ≤ 249 ∧ buffersWf benign = true ∧
    exec .lnkSend benign = .next (nextOf (exec .lnkSend benign)) ∧ Answered .ok (nextOf (exec .lnkSend benign)) :=
  ⟨by decide, by decide +kernel, eq_next (by decide +kernel), by decide +kernel⟩

/-- A throttled send whose fourth primitive fails after part of the frame. -/
def failing : State :=
  { openState with
    txdly := 1, env := { turns := [{}, {}, {}, { fail := some 1 }], openEnded := false } }

theorem witness_SendGivesAPrefixOfTheFrame :
    failing.plen.toNat ≤ 249 ∧ buffersWf failing = true ∧ NoResetInput failing ∧ sendFrame failing = some frame ∧
    exec .lnkSend failing = .next (nextOf (exec .lnkSend failing)) :=
  ⟨by decide, by decide +kernel, by decide, by decide +kernel, eq_next (by decide +kernel)⟩

/-- Three bytes in `RXQ`, to which the environment adds two: one fewer than a frame. -/
def fiveBytes (opened : Bool) (fail : Option Nat) : State := { atTurn opened fail with rxq := [1, 2, 3] }

theorem witness_PollWithoutAFrameConsumesNothing :
    (Ready (fiveBytes true none) ∧ (fiveBytes true none).opened = true ∧ (nextTurn (fiveBytes true none)).fail = none ∧
      ((fiveBytes true none).rxq ++ (nextTurn (fiveBytes true none)).arrive).length <
        (fiveBytes true none).plen.toNat + 6) ∧
    (Ready (fiveBytes false none) ∧ (fiveBytes false none).opened = false) ∧
    (Ready (fiveBytes true (some 0)) ∧ (nextTurn (fiveBytes true (some 0))).fail ≠ none) := by decide +kernel

/-- The frame of V22 at the head of `RXQ`, three more bytes after it. -/
def waiting (laddr : Nibble) (b : List Byte) : State := { openState with laddr := laddr, rxq := b ++ [1, 2, 3] }

theorem witness_PollDeliversAFrameForThisNode :
    (waiting 0 frame).opened = true ∧ Quiet (waiting 0 frame) ∧ buffersWf (waiting 0 frame) = true ∧
    (waiting 0 frame).plen.toNat ≤ 249 ∧ (waiting 0 frame).rxq = frame ++ [1, 2, 3] ∧
    dec frame (waiting 0 frame).plen.toNat = .ok (frameFields, 0xDBFF) ∧ frameFields.da = (waiting 0 frame).laddr :=
  ⟨rfl, rfl, by decide +kernel, by decide, rfl, dec_frame, rfl⟩

theorem dec_damaged : dec damaged 0 = .error .fcsMismatch := by decide +kernel

theorem witness_PollStopsAtADamagedFrame :
    (waiting 0 damaged).opened = true ∧ Quiet (waiting 0 damaged) ∧ buffersWf (waiting 0 damaged) = true ∧
    (waiting 0 damaged).plen.toNat ≤ 249 ∧ (waiting 0 damaged).rxq = damaged ++ [1, 2, 3] ∧
    dec damaged (waiting 0 damaged).plen.toNat = .error .fcsMismatch :=
  ⟨rfl, rfl, by decide +kernel, by decide, rfl, dec_damaged⟩

theorem witness_PollSkipsAFrameForAnotherNode :
    (waiting 1 frame).opened = true ∧ Quiet (waiting 1 frame) ∧ (waiting 1 frame).rxq = frame ++ [1, 2, 3] ∧
    dec frame (waiting 1 frame).plen.toNat = .ok (frameFields, 0xDBFF) ∧ frameFields.da ≠ (waiting 1 frame).laddr :=
  ⟨rfl, rfl, rfl, dec_frame, by decide⟩

/-- A poll in progress, another frame for another node arriving whenever it takes one, `n` times. -/
def flooded (n : Nat) : State :=
  { polling with
    laddr := 1, rxq := frame
    env := { turns := (List.replicate n [{}, { arrive := frame }]).flatten, openEnded := true } }

theorem witness_PollCanBeKeptGoingForEver (n : Nat) :
    (flooded n).ctl = .run (.avail .own) ∧ (flooded n).response = none ∧ (flooded n).opened = true ∧
    (flooded n).params.rxDepth = none ∧ (flooded n).rxq = frame ∧
    dec frame (flooded n).plen.toNat = .ok (frameFields, 0xDBFF) ∧ frameFields.da ≠ (flooded n).laddr ∧
    (flooded n).env = { turns := (List.replicate n [{}, { arrive := frame }]).flatten, openEnded := true } :=
  ⟨rfl, rfl, rfl, rfl, rfl, dec_frame, by change (0 : Nibble) ≠ 1; decide, rfl⟩

theorem witness_SyncWithoutReqAckOnlySends :
    benign.opened = true ∧ Benign benign ∧ benign.plen.toNat ≤ 249 ∧ buffersWf benign = true ∧
    sendFrame benign = some frame ∧ benign.txfc.getLsbD 1 = false := by decide +kernel

/-- A request with REQ_ACK, five bytes waiting, fewer than a frame, and an environment that only drains. -/
def request : State :=
  { openState with
    txfc := 0x02, tmo := 10, rxq := [1, 2, 3, 4, 5], env := { turns := [{ drain := 1 }], openEnded := false } }

/-- The frame of that request. -/
def requestFrame : List Byte := (sendFrame request).getD []

theorem witness_SyncTimesOut :
    request.opened = true ∧ Benign request ∧ (∀ turn ∈ request.env.turns, turn.arrive = []) ∧
    request.plen.toNat ≤ 249 ∧ buffersWf request = true ∧ sendFrame request = some requestFrame ∧
    request.txfc.getLsbD 1 = true ∧ request.rxq.length < request.plen.toNat + 6 := by decide +kernel

/-- A request with a frame already waiting. -/
def stale (m : Config.ReplyMatch) (seq : Byte) : State :=
  { openState with txfc := 0x02, seqcnt := seq, rxq := frame ++ [1], params := { State.reset.params with replyMatch := m } }

theorem witness_SyncTakesAWaitingFrameAsTheReply :
    ((stale .any 5).opened = true ∧ Quiet (stale .any 5) ∧ (stale .any 5).plen.toNat ≤ 249 ∧
      buffersWf (stale .any 5) = true ∧ sendFrame (stale .any 5) = some ((sendFrame (stale .any 5)).getD []) ∧
      (stale .any 5).txfc.getLsbD 1 = true ∧ (stale .any 5).rxq = frame ++ [1] ∧
      frameFields.da = (stale .any 5).laddr ∧ (stale .any 5).params.replyMatch = .any) ∧
    (Quiet (stale .seq 0) ∧ sendFrame (stale .seq 0) = some ((sendFrame (stale .seq 0)).getD []) ∧
      frameFields.seq = (stale .seq 0).seqcnt) ∧
    dec frame (stale .any 5).plen.toNat = .ok (frameFields, 0xDBFF) :=
  ⟨by decide +kernel, by decide +kernel, dec_frame⟩

/-- A request with `TMO` = 10 whose reply arrives during the `k`-th wait. -/
def replied (k : Nat) : State :=
  { openState with
    txfc := 0x02, tmo := 10,
    env := { turns := List.replicate (2 * k + 1) {} ++ [{ arrive := frame }], openEnded := false } }

theorem witness_SyncReturnsAReplyOfTheKthWait :
    (∀ k ∈ [1, 2], (replied k).opened = true ∧ (replied k).params.rxDepth = none ∧ (replied k).txdly = 0 ∧
      (replied k).plen.toNat ≤ 249 ∧ buffersWf (replied k) = true ∧
      sendFrame (replied k) = some ((sendFrame (replied k)).getD []) ∧ (replied k).txfc.getLsbD 1 = true ∧
      (replied k).rxq = [] ∧ 1 ≤ k ∧ k ≤ (replied k).tmo.toNat / 10 + 1 ∧
      (replied k).env = { turns := List.replicate (2 * k + 1) {} ++ [{ arrive := frame }], openEnded := false } ∧
      frameFields.da = (replied k).laddr ∧ (replied k).params.replyMatch = .any) ∧
    dec frame 0 = .ok (frameFields, 0xDBFF) := ⟨by decide +kernel, dec_frame⟩

/-- With `REPLY_MATCH = SEQ`, a waiting frame whose sequence number is not the request's. -/
def mismatched : State := { stale .seq 5 with rxq := frame, tmo := 10 }

theorem witness_SeqMatchDropsAnotherReply :
    (mismatched.opened = true ∧ Quiet mismatched ∧ mismatched.plen.toNat ≤ 249 ∧ buffersWf mismatched = true ∧
      sendFrame mismatched = some ((sendFrame mismatched).getD []) ∧ mismatched.txfc.getLsbD 1 = true ∧
      mismatched.rxq = frame ∧ frameFields.da = mismatched.laddr ∧ mismatched.params.replyMatch = .seq ∧
      frameFields.seq ≠ mismatched.seqcnt) ∧
    dec frame mismatched.plen.toNat = .ok (frameFields, 0xDBFF) := ⟨by decide +kernel, dec_frame⟩

/-- A request in its second wait, in an environment that is not yet known further. -/
def midSync : State :=
  { openState with
    txfc := 0x02, tmo := 10, elapsed := 10, fblen := 6, fbuf := bufferOf requestFrame, ctl := .wait .poll
    env := { turns := [{ arrive := [1] }], openEnded := true } }

theorem witness_EveryStepKeepsInv :
    BlockInv midSync ∧ step midSync = .next (nextOf (step midSync)) :=
  ⟨by decide +kernel, eq_next (by decide +kernel)⟩

/-- The same with an `RXQ` that holds no byte at all. -/
def overflowing : State := { midSync with params := { midSync.params with rxDepth := some 0 } }

theorem witness_EveryStepOfInvAnswers : BlockInv midSync ∧ BlockInv overflowing := by decide +kernel

theorem witness_EveryCommandEnds :
    BlockInv benign ∧ benign.ctl = .idle ∧ benign.env.openEnded = false ∧
    exec .lnkSync benign = .next (nextOf (exec .lnkSync benign)) ∧ NoResetInput benign :=
  ⟨by decide +kernel, rfl, rfl, eq_next (by decide +kernel), by decide⟩

theorem witness_WireOnlyGrows :
    step { benign with script := [some 0x00000032] } = .next (nextOf (step { benign with script := [some 0x00000032] })) :=
  eq_next (by decide +kernel)

theorem witness_SeqcntAdvancesOncePerSend :
    NoResetInput benign ∧ exec .lnkSend benign = .next (nextOf (exec .lnkSend benign)) ∧
    exec .lnkPoll benign = .next (nextOf (exec .lnkPoll benign)) :=
  ⟨by decide, eq_next (by decide +kernel), eq_next (by decide +kernel)⟩

/-- The later steps of a command in progress: a request in its second wait, a poll that finds a damaged frame, and a send
that ends; none has a response yet, and no reset input comes. -/
def sending : State :=
  { openState with fblen := 6, fbuf := bufferOf frame, ctl := .run (.write .own) }

def pollingDamaged : State := { polling with rxq := damaged }

/-- Witnesses for the clauses on a command in progress of `SeqcntAdvancesOncePerSend`, `CommandsKeepTheHostsRegisters`,
`RxRegistersChangeOnlyOnDelivery`, `AtomicCommandsLeaveThePipe` and `OnlyTheListedResultCodes`. -/
theorem witness_laterSteps :
    (NoResetInput midSync ∧ midSync.ctl ≠ .idle ∧ commandOf midSync.ctl = some .lnkSync ∧ midSync.response = none ∧
      midSync.params.replyMatch = .any ∧ step midSync = .next (nextOf (step midSync)) ∧
      (nextOf (step midSync)).rxv = false) ∧
    (NoResetInput pollingDamaged ∧ commandOf pollingDamaged.ctl = some .lnkPoll ∧ pollingDamaged.response = none ∧
      pollingDamaged.params.replyMatch = .any ∧ step pollingDamaged = .next (nextOf (step pollingDamaged)) ∧
      (nextOf (step pollingDamaged)).rxv = false ∧
      (nextOf (step pollingDamaged)).response = some ⟨.fcsMismatch, 0⟩) ∧
    (NoResetInput sending ∧ commandOf sending.ctl = some .lnkSend ∧ sending.response = none ∧
      sending.params.replyMatch = .any ∧ step sending = .next (nextOf (step sending)) ∧
      (nextOf (step sending)).response = some ⟨.ok, 0⟩) :=
  ⟨⟨by decide, by decide, rfl, rfl, rfl, eq_next (by decide +kernel), by decide +kernel⟩,
    ⟨by decide, rfl, rfl, rfl, eq_next (by decide +kernel), by decide +kernel, by decide +kernel⟩,
    ⟨by decide, rfl, rfl, rfl, eq_next (by decide +kernel), by decide +kernel⟩⟩

theorem witness_CommandsKeepTheHostsRegisters :
    NoResetInput benign ∧ exec .lnkSync benign = .next (nextOf (exec .lnkSync benign)) :=
  ⟨by decide, eq_next (by decide +kernel)⟩

theorem witness_RxRegistersChangeOnlyOnDelivery :
    NoResetInput (waiting 0 damaged) ∧ (waiting 0 damaged).params.replyMatch = .any ∧
    exec .lnkPoll (waiting 0 damaged) = .next (nextOf (exec .lnkPoll (waiting 0 damaged))) ∧
    (nextOf (exec .lnkPoll (waiting 0 damaged))).rxv = false ∧
    exec .lnkSend benign = .next (nextOf (exec .lnkSend benign)) :=
  ⟨by decide, rfl, eq_next (by decide +kernel), by decide +kernel, eq_next (by decide +kernel)⟩

theorem witness_AtomicCommandsLeaveThePipe :
    isLink .frmEnc = false ∧ exec .frmEnc encState = .next (nextOf (exec .frmEnc encState)) ∧
    NoResetInput benign ∧ exec .lnkPoll benign = .next (nextOf (exec .lnkPoll benign)) :=
  ⟨rfl, eq_next (by decide +kernel), by decide, eq_next (by decide +kernel)⟩

theorem witness_OnlyTheListedResultCodes :
    exec .lnkPoll (waiting 0 damaged) = .next (nextOf (exec .lnkPoll (waiting 0 damaged))) ∧
    (nextOf (exec .lnkPoll (waiting 0 damaged))).response = some ⟨.fcsMismatch, 0⟩ :=
  ⟨eq_next (by decide +kernel), by decide +kernel⟩

end Sys2Proof.Tests
end

section
/-!
SUPPORT. What a command can answer in the step that takes it, said once (`Answers`, `Launches`, `exec_next`), and what
no pass of a command in progress writes (`hostView`). The statements about registers, buffers and the pipe (10_state.md)
follow from these.
-/

namespace Sys2Proof.Machine

/-! ### What a command does in the step that takes it -/

/-- The frame of the TX registers is serialized exactly if the payload fits (41_frame_codec.md R93). -/
theorem encodeTx_eq_some {s u : State} : encodeTx s = some u ↔
    s.txlen.toNat ≤ s.plen.toNat ∧ u = setCrc (crcAcc (txBody s)) (bufferFrame (withFcs (txBody s)) s) := by
  obtain h | h := Nat.lt_or_ge s.plen.toNat s.txlen.toNat
  · simp [encodeTx_of_too_long h, h]
  · simp [encodeTx_of_fits h, h, eq_comm]

theorem encodeTx_eq_none {s : State} : encodeTx s = none ↔ s.plen.toNat < s.txlen.toNat := by
  obtain h | h := Nat.lt_or_ge s.plen.toNat s.txlen.toNat
  · simp [encodeTx_of_too_long h, h]
  · simp [encodeTx_of_fits h, h]

/-- Every way for a command to answer at once, at no interleaving point: its response, and what it has written by then,
with its guards. -/
inductive Answers (s : State) : Instr → Response → State → Prop where
  | sysReset : Answers s .sysReset ⟨.ok, 0⟩ (resetBlock s)
  | illegalOperand (i : Instr) : WellFormed i = false → Answers s i ⟨.illegalOperand, 0⟩ s
  | regRd (num : Byte) (r : Reg) : regNumber r = num → Answers s (.regRd num) ⟨.ok, readReg r s⟩ s
  | regWr (num : Byte) (v : Half) (r : Reg) : regNumber r = num → regReadOnly r = false →
      regValueRefused r v = false → Answers s (.regWr num v) ⟨.ok, 0⟩ (writeReg r v s)
  | crcInit : Answers s .crcInit ⟨.ok, 0⟩ (setCrc crcSeed s)
  | crcUpd (d : Byte) : Answers s (.crcUpd d) ⟨.ok, 0⟩ (setCrc (crcStep s.crc d) s)
  | crcFin : Answers s .crcFin ⟨.ok, (s.crc ^^^ crcXorOut).setWidth 32⟩ s
  | frmEncTooLong : s.plen.toNat < s.txlen.toNat → Answers s .frmEnc ⟨.payloadTooLong, 0⟩ s
  | frmEnc (u : State) : encodeTx s = some u → Answers s .frmEnc ⟨.ok, 0⟩ u
  | frmDecLength : s.fblen.toNat ≠ flen s → Answers s .frmDec ⟨.lengthMismatch, 0⟩ (clearRxv s)
  | frmDecFcs : s.fblen.toNat = flen s → fcsMatches (frameBytes s) s.plen.toNat = false →
      Answers s .frmDec ⟨.fcsMismatch, 0⟩ (checkFrame (frameBytes s) (clearRxv s))
  | frmDec : s.fblen.toNat = flen s → fcsMatches (frameBytes s) s.plen.toNat = true →
      Answers s .frmDec ⟨.ok, 0⟩ (deliver (frameBytes s) (checkFrame (frameBytes s) (clearRxv s)))
  | frmErrc (fc : Byte) : Answers s (.frmErrc fc) ⟨.ok, (errorCode fc).setWidth 32⟩ s
  | txpWr (idx : Byte) (v : Half) : idx.toNat < Config.payloadSize →
      Answers s (.txpWr idx v) ⟨.ok, 0⟩ { s with txpay := Memory.write s.txpay idx.toNat (byteOperand v) }
  | rxpRd (idx : Byte) : idx.toNat < Config.payloadSize →
      Answers s (.rxpRd idx) ⟨.ok, (Memory.read s.rxpay idx.toNat).setWidth 32⟩ s
  | fbWr (idx : Byte) (v : Half) : idx.toNat < Config.frameBufferSize →
      Answers s (.fbWr idx v) ⟨.ok, 0⟩ { s with fbuf := Memory.write s.fbuf idx.toNat (byteOperand v) }
  | fbRd (idx : Byte) : idx.toNat < Config.frameBufferSize →
      Answers s (.fbRd idx) ⟨.ok, (Memory.read s.fbuf idx.toNat).setWidth 32⟩ s
  | sendTooLong : s.plen.toNat < s.txlen.toNat → Answers s .lnkSend ⟨.payloadTooLong, 0⟩ (assignHeader s)
  | syncTooLong : s.plen.toNat < s.txlen.toNat →
      Answers s .lnkSync ⟨.payloadTooLong, 0⟩ (assignHeader (startSync s))

/-- Every way for a command to go to its first interleaving point: the point, and what it has written by then. -/
inductive Launches (s : State) : Instr → Control → State → Prop where
  | lnkOpen : Launches s .lnkOpen (.run .opening) s
  | lnkClose : Launches s .lnkClose (.run .closing) s
  | lnkSend (u : State) : encodeTx (assignHeader s) = some u →
      Launches s .lnkSend (.run (firstWrite .own u)) u
  | lnkPoll : Launches s .lnkPoll (.run (.avail .own)) (clearRxv s)
  | lnkSync (u : State) : encodeTx (assignHeader (startSync s)) = some u →
      Launches s .lnkSync (.run (firstWrite .sync u)) u

/-- The command ends in the step that takes it without an interleaving point, or is carried on from its first one. -/
abbrev Outcomes (i : Instr) (s t : State) : Prop :=
  (∃ r u, Answers s i r u ∧ t = respond r.rc r.val u) ∨
  ∃ c u, Launches s i c u ∧ resume (accept c u) = .next t

section
variable {s t : State}

theorem Answers.outcomes {i : Instr} {r : Response} {u : State} (ha : Answers s i r u)
    (h : (.next (respond r.rc r.val u) : Result) = .next t) : Outcomes i s t := by
  cases h
  exact .inl ⟨r, u, ha, rfl⟩

theorem execRegRd_next {num : Byte} (h : execRegRd num s = .next t) : Outcomes (.regRd num) s t := by
  unfold execRegRd at h
  split at h <;> rename_i hr
  · exact (Answers.illegalOperand (.regRd num) (by simp [WellFormed, hr])).outcomes h
  · exact (Answers.regRd num _ (regOf_eq_some.mp hr)).outcomes h

theorem execRegWr_next {num : Byte} {v : Half} (h : execRegWr num v s = .next t) :
    Outcomes (.regWr num v) s t := by
  have refused (hw : regWrWellFormed num v = false) := Answers.illegalOperand (s := s) (.regWr num v) hw
  unfold execRegWr at h
  split at h <;> rename_i hr
  · exact (refused (by simp [regWrWellFormed, hr])).outcomes h
  · split_ifs at h with ho hv
    · exact (refused (by simp [regWrWellFormed, hr, ho])).outcomes h
    · have hw : regWrWellFormed num v = false := by
        simp only [regValueRefused, Bool.and_eq_true, beq_iff_eq, Nat.blt_eq] at hv
        simp [regWrWellFormed, hr, hv.1, hv.2]
      exact (refused hw).outcomes h
    · exact (Answers.regWr num v _ (regOf_eq_some.mp hr) (by simpa using ho) (by simpa using hv)).outcomes h

theorem execFrmEnc_next (h : execFrmEnc s = .next t) : Outcomes .frmEnc s t := by
  unfold execFrmEnc at h
  split at h <;> rename_i he
  · exact (Answers.frmEncTooLong (encodeTx_eq_none.mp he)).outcomes h
  · exact (Answers.frmEnc _ he).outcomes h

theorem execFrmDec_next (h : execFrmDec s = .next t) : Outcomes .frmDec s t := by
  unfold execFrmDec at h
  split at h <;> rename_i hl
  · exact (Answers.frmDecLength (by simpa using hl)).outcomes h
  · have hl : s.fblen.toNat = flen s := by simpa using hl
    unfold decodeBuffer at h
    split at h <;> rename_i hm
    · exact (Answers.frmDec hl hm).outcomes h
    · exact (Answers.frmDecFcs hl hm).outcomes h

theorem execTxpWr_next {idx : Byte} {v : Half} (h : execTxpWr idx v s = .next t) :
    Outcomes (.txpWr idx v) s t := by
  unfold execTxpWr at h
  split at h <;> rename_i hi
  · exact (Answers.txpWr idx v hi).outcomes h
  · exact (Answers.illegalOperand (.txpWr idx v) (by simpa [WellFormed] using hi)).outcomes h

theorem execRxpRd_next {idx : Byte} (h : execRxpRd idx s = .next t) : Outcomes (.rxpRd idx) s t := by
  unfold execRxpRd at h
  split at h <;> rename_i hi
  · exact (Answers.rxpRd idx hi).outcomes h
  · exact (Answers.illegalOperand (.rxpRd idx) (by simpa [WellFormed] using hi)).outcomes h

theorem execFbWr_next {idx : Byte} {v : Half} (h : execFbWr idx v s = .next t) :
    Outcomes (.fbWr idx v) s t := by
  unfold execFbWr at h
  split at h <;> rename_i hi
  · exact (Answers.fbWr idx v hi).outcomes h
  · exact (Answers.illegalOperand (.fbWr idx v) (by simpa [WellFormed] using hi)).outcomes h

theorem execFbRd_next {idx : Byte} (h : execFbRd idx s = .next t) : Outcomes (.fbRd idx) s t := by
  unfold execFbRd at h
  split at h <;> rename_i hi
  · exact (Answers.fbRd idx hi).outcomes h
  · exact (Answers.illegalOperand (.fbRd idx) (by simpa [WellFormed] using hi)).outcomes h

theorem execLnkSend_next (h : execLnkSend s = .next t) : Outcomes .lnkSend s t := by
  unfold execLnkSend startSend at h
  split at h <;> rename_i he
  · have hl : s.plen.toNat < s.txlen.toNat := by simpa using encodeTx_eq_none.mp he
    exact (Answers.sendTooLong hl).outcomes h
  · exact .inr ⟨_, _, .lnkSend _ he, h⟩

theorem execLnkSync_next (h : execLnkSync s = .next t) : Outcomes .lnkSync s t := by
  unfold execLnkSync startSend at h
  split at h <;> rename_i he
  · have hl : s.plen.toNat < s.txlen.toNat := by simpa using encodeTx_eq_none.mp he
    exact (Answers.syncTooLong hl).outcomes h
  · exact .inr ⟨_, _, .lnkSync _ he, h⟩

/-- Every next state of a command is one of the cases of `Answers`, or comes from one of those of `Launches`. -/
theorem exec_next {i : Instr} (h : exec i s = .next t) : Outcomes i s t := by
  cases i with
  | sysReset => exact Answers.sysReset.outcomes h
  | regRd num => exact execRegRd_next h
  | regWr num v => exact execRegWr_next h
  | crcInit => exact Answers.crcInit.outcomes h
  | crcUpd d => exact (Answers.crcUpd d).outcomes h
  | crcFin => exact Answers.crcFin.outcomes h
  | frmEnc => exact execFrmEnc_next h
  | frmDec => exact execFrmDec_next h
  | frmErrc fc => exact (Answers.frmErrc fc).outcomes h
  | txpWr idx v => exact execTxpWr_next h
  | rxpRd idx => exact execRxpRd_next h
  | fbWr idx v => exact execFbWr_next h
  | fbRd idx => exact execFbRd_next h
  | lnkOpen => exact .inr ⟨_, _, .lnkOpen, h⟩
  | lnkClose => exact .inr ⟨_, _, .lnkClose, h⟩
  | lnkSend => exact execLnkSend_next h
  | lnkPoll => exact .inr ⟨_, _, .lnkPoll, h⟩
  | lnkSync => exact execLnkSync_next h

end

/-- A command is launched at a point of its own. -/
theorem Launches.commandOf_eq {s u : State} {i : Instr} {c : Control} (h : Launches s i c u) :
    commandOf c = some i := by
  have first (k : Caller) (v : State) : firstWrite k v = .write k ∨ firstWrite k v = .byteWrite k 0 := by
    unfold firstWrite
    split <;> simp
  cases h with
  | lnkSend | lnkSync => obtain h | h := first _ u <;> rw [h] <;> rfl
  | lnkOpen | lnkClose | lnkPoll => rfl

/-- Only a link command is launched. -/
theorem Launches.isLink_eq {s u : State} {i : Instr} {c : Control} (h : Launches s i c u) : isLink i = true := by
  cases h <;> rfl

/-! ### What no pass of a command in progress writes -/

/-- The registers and the buffer that no pass of a command in progress writes, with what lies outside the block: the
host's words and the parameters. -/
structure HostView where
  laddr : Nibble
  plen : Byte
  seqcnt : Byte
  txdly : Half
  tmo : Half
  daddr : Nibble
  txfc : Byte
  txseq : Byte
  txsa : Nibble
  txda : Nibble
  txlen : Byte
  txpay : Memory
  script : List (Option Word)
  params : Config.Params

/-- Those fields of a state. -/
def hostView (s : State) : HostView :=
  ⟨s.laddr, s.plen, s.seqcnt, s.txdly, s.tmo, s.daddr, s.txfc, s.txseq, s.txsa, s.txda, s.txlen, s.txpay, s.script,
    s.params⟩

theorem hostView_of_encodeTx {s u : State} (h : encodeTx s = some u) : hostView u = hostView s := by
  obtain ⟨-, rfl⟩ := encodeTx_eq_some.mp h
  rfl

theorem rxView_of_encodeTx {s u : State} (h : encodeTx s = some u) : rxView u = rxView s := by
  obtain ⟨-, rfl⟩ := encodeTx_eq_some.mp h
  rfl

section
variable {f : Option Nat} {u t : State}

theorem Pass.hostView_eq (h : Pass f u t) : hostView t = hostView u := by
  cases h with
  | badFrame _ _ _ _ _ _ _ hv | foreignFrame _ _ _ _ _ _ _ hv | delivers _ _ _ _ _ _ _ hv
  | dropsTimeout _ _ _ _ _ _ hv | dropsWaits _ _ _ _ _ _ hv => simp [hostView, hv]
  | _ => rfl

theorem Pass.env_eq (h : Pass f u t) : t.env = u.env := by
  cases h with
  | badFrame _ _ _ _ _ _ _ hv | foreignFrame _ _ _ _ _ _ _ hv | delivers _ _ _ _ _ _ _ hv
  | dropsTimeout _ _ _ _ _ _ hv | dropsWaits _ _ _ _ _ _ hv => simp [hv]
  | _ => rfl

/-- A pass ends the command, or leaves it at another point of the same command (42_link.md R110 to R115). -/
theorem Pass.ends_or_same_command (h : Pass f u t) : t.ctl = .idle ∨ commandOf t.ctl = commandOf u.ctl := by
  cases h with
  | idle hc => exact .inl hc
  | writes c hc | byteWrites c i hc | byteFlushes c i hc | nextByte c i hc | lastByte c i hc | available c hc
  | foreignFrame c b v hc => cases c <;> simp [hc, commandOf]
  | sentSync hc | waits hc | dropsWaits b v hc | pollsAgain hc => simp [hc, commandOf]
  | _ => exact .inl rfl

/-- The time waited is counted nowhere but after a wait of `LNK.SYNC` (42_link.md R115 line 8). -/
theorem Pass.elapsed_eq (h : Pass f u t) (hw : u.ctl ≠ .wait .poll) : t.elapsed = u.elapsed := by
  cases h with
  | pollsAgain hc => exact absurd hc hw
  | badFrame _ _ _ _ _ _ _ hv | foreignFrame _ _ _ _ _ _ _ hv | delivers _ _ _ _ _ _ _ hv
  | dropsTimeout _ _ _ _ _ _ hv | dropsWaits _ _ _ _ _ _ hv => simp [hv]
  | _ => rfl

/-- Without `REPLY_MATCH = SEQ`, a pass that writes the RX registers delivers the frame and ends the command
(10_state.md R24). -/
theorem Pass.rxView_eq_or_delivers (h : Pass f u t) (hm : u.params.replyMatch = .any) :
    rxView t = rxView u ∨
    (t.ctl = .idle ∧ t.rxv = true ∧ (commandOf u.ctl = some .lnkPoll ∨ commandOf u.ctl = some .lnkSync)) := by
  have every_reply {v : State} (hp : v.params = u.params) : isReply v ≠ false := by simp [isReply, hp, hm]
  cases h with
  | badFrame _ _ _ _ _ _ _ hv | foreignFrame _ _ _ _ _ _ _ hv => exact .inl (by simp [rxView, hv])
  | delivers c b v hc _ _ _ hv => cases c <;> simp [hc, hv, commandOf]
  | dropsTimeout b v _ _ _ _ hv _ _ hr | dropsWaits b v _ _ _ _ hv _ _ hr =>
    exact absurd hr (every_reply (by simp [hv]))
  | _ => exact .inl rfl

end

/-! ### From single passes to a whole step -/

theorem noResetInput_dropTurn {s : State} (h : NoResetInput s) (m : EnvTurn) :
    NoResetInput (envMoves m (dropTurn s)) :=
  fun e he => h e (List.mem_of_mem_tail he)

theorem resetInput_nextTurn {s : State} (h : NoResetInput s) : (nextTurn s).resetInput = false := by
  unfold nextTurn
  split
  · rfl
  · rename_i e rest he
    exact h e (by simp [he])

/-- Where no reset input comes, a property that the environment's moves and every pass keep is kept by a step of a
command in progress. -/
theorem resume_induct_of_noResetInput {P : State → Prop}
    (henv : ∀ (m : EnvTurn) (s : State), P s → P (envMoves m (dropTurn s)))
    (hpass : ∀ (f : Option Nat) (u t : State), u.ctl ≠ .idle → P u → Pass f u t → P t)
    {s t : State} (hn : NoResetInput s) (hs : P s) (h : resume s = .next t) : P t := by
  refine (carryOn_induct (P := fun s => NoResetInput s ∧ P s) ?_ ⟨hn, hs⟩ h).2
  rintro s t ⟨hn, hs⟩ hc ha
  obtain ⟨-, ⟨hr, -⟩ | ⟨-, hp⟩⟩ := advance_next ha
  · simp [resetInput_nextTurn hn] at hr
  · have hn' := noResetInput_dropTurn hn (nextTurn s)
    refine ⟨fun e he => hn' e (hp.env_eq ▸ he), hpass _ _ _ ?_ (henv _ _ hs) hp⟩
    exact (canAdvance_iff.mp hc).1

section
variable {s t : State}

theorem resume_hostView (hn : NoResetInput s) (h : resume s = .next t) : hostView t = hostView s :=
  resume_induct_of_noResetInput (P := fun u => hostView u = hostView s)
    (fun _ _ hu => hu) (fun _ _ _ _ hu hp => hp.hostView_eq.trans hu) hn rfl h

/-- A reset input, too, leaves what lies outside the block. -/
theorem resume_keeps_port (h : resume s = .next t) : t.script = s.script ∧ t.params = s.params := by
  refine carryOn_induct (P := fun u => u.script = s.script ∧ u.params = s.params) ?_ ⟨rfl, rfl⟩ h
  intro u v hu _ ha
  obtain ⟨-, ⟨-, rfl⟩ | ⟨-, hp⟩⟩ := advance_next ha
  · exact hu
  · have hv : hostView v = hostView u := hp.hostView_eq
    exact ⟨(congrArg HostView.script hv).trans hu.1, (congrArg HostView.params hv).trans hu.2⟩

/-- The command in progress is `i`, until it has ended. -/
abbrev Running (i : Instr) (s : State) : Prop := s.ctl = .idle ∨ commandOf s.ctl = some i

theorem Running.of_pass {i : Instr} {f : Option Nat} {u : State} (hi : Running i u) (hb : u.ctl ≠ .idle)
    (hp : Pass f u t) : commandOf u.ctl = some i ∧ Running i t := by
  have hu : commandOf u.ctl = some i := hi.resolve_left hb
  exact ⟨hu, hp.ends_or_same_command.imp_right fun h => h.trans hu⟩

theorem resume_elapsed {i : Instr} (hn : NoResetInput s) (hi : commandOf s.ctl = some i) (hne : i ≠ .lnkSync)
    (h : resume s = .next t) : t.elapsed = s.elapsed := by
  refine (resume_induct_of_noResetInput (P := fun u => Running i u ∧ u.elapsed = s.elapsed)
    (fun _ _ hu => hu) ?_ hn ⟨.inr hi, rfl⟩ h).2
  rintro f u t hb ⟨hi, he⟩ hp
  obtain ⟨hu, ht⟩ := hi.of_pass hb hp
  have hw : u.ctl ≠ .wait .poll := by
    intro hw
    rw [hw] at hu
    cases hu
    exact hne rfl
  exact ⟨ht, (hp.elapsed_eq hw).trans he⟩

/-- Without `REPLY_MATCH = SEQ`, a step of a command in progress leaves the RX registers, or it delivers a frame and ends
a poll or a synchronous request. -/
theorem resume_rxView {i : Instr} (hn : NoResetInput s) (hm : s.params.replyMatch = .any)
    (hi : commandOf s.ctl = some i) (h : resume s = .next t) :
    rxView t = rxView s ∨ (t.ctl = .idle ∧ t.rxv = true ∧ (i = .lnkPoll ∨ i = .lnkSync)) := by
  refine (resume_induct_of_noResetInput (P := fun u => u.params.replyMatch = .any ∧ Running i u ∧
    (rxView u = rxView s ∨ (u.ctl = .idle ∧ u.rxv = true ∧ (i = .lnkPoll ∨ i = .lnkSync))))
    (fun _ _ hu => hu) ?_ hn ⟨hm, .inr hi, .inl rfl⟩ h).2.2
  rintro f u t hb ⟨hm, hi, hd⟩ hp
  obtain ⟨hu, ht⟩ := hi.of_pass hb hp
  have hx : rxView u = rxView s := hd.resolve_right fun hd => hb hd.1
  have hmt : t.params.replyMatch = .any := (congrArg (·.params.replyMatch) hp.hostView_eq).trans hm
  refine ⟨hmt, ht, (hp.rxView_eq_or_delivers hm).imp (fun e => e.trans hx) ?_⟩
  simp [hu]

end

end Sys2Proof.Machine
end

section
/-!
SUPPORT. The frames of the commands (10_state.md R15, R21 to R24, R27, R29) and the values after reset (R30).
-/

namespace Sys2Proof.Machine

/-! ### Reset -/

/-- Settles O7: the state right after reset is itself one that `resetBlock` gives. -/
theorem resetGivesEveryResetValue : Obligations.ResetGivesEveryResetValue := by
  intro s t ht
  obtain ⟨u, rfl⟩ : ∃ u, t = resetBlock u := ht.elim (fun h => ⟨s, h⟩) (fun h => ⟨State.reset, h⟩)
  have outside : resetBlock u = resetBlock s → u.rxq = s.rxq ∧ u.wire = s.wire :=
    fun h => ⟨(congrArg State.rxq h :), (congrArg State.wire h :)⟩
  simpa [statusWord, phaseOf, unlistedByte] using outside

/-- Settles O51: a closed state, which the invariant is evaluated on. -/
theorem resetSatisfiesInv : Obligations.ResetSatisfiesInv := by
  unfold Obligations.ResetSatisfiesInv
  decide

/-! ### The command port -/

theorem writeReg_script (r : Reg) (v : Half) (s : State) : (writeReg r v s).script = s.script := by
  cases r <;> rfl

theorem writeReg_params (r : Reg) (v : Half) (s : State) : (writeReg r v s).params = s.params := by
  cases r <;> rfl

section
variable {s u : State} {i : Instr} {r : Response} {c : Control}

theorem Answers.keeps_port (h : Answers s i r u) : u.script = s.script ∧ u.params = s.params := by
  cases h with
  | regWr num v r => exact ⟨writeReg_script r v s, writeReg_params r v s⟩
  | frmEnc u he =>
    have hv := hostView_of_encodeTx he
    exact ⟨congrArg HostView.script hv, congrArg HostView.params hv⟩
  | _ => exact ⟨rfl, rfl⟩

/-- What a command has written when it goes to its first interleaving point: a send has used up a sequence number and
serialized its frame, and no other command has written more than the flags. -/
theorem Launches.hostView_eq (h : Launches s i c u) :
    hostView u = hostView (if i = .lnkSend ∨ i = .lnkSync then assignHeader s else s) := by
  cases h with
  | lnkSend u he | lnkSync u he => exact (hostView_of_encodeTx he).trans rfl
  | lnkOpen | lnkClose | lnkPoll => rfl

theorem Launches.keeps_port (h : Launches s i c u) : u.script = s.script ∧ u.params = s.params := by
  have hv := h.hostView_eq
  have hs := congrArg HostView.script hv
  have hp := congrArg HostView.params hv
  split_ifs at hs hp <;> exact ⟨hs, hp⟩

end

/-- Settles O6: a step of a command in progress leaves the port alone, and so does what a command writes before it is
carried on. -/
theorem noWordIsTakenWhileBusy : Obligations.NoWordIsTakenWhileBusy := by
  refine ⟨fun s t hb h => resume_keeps_port (step_of_busy hb ▸ h), fun i s t h => ?_⟩
  obtain ⟨r, u, ha, rfl⟩ | ⟨c, u, hl, hr⟩ := exec_next h
  · exact ha.keeps_port
  · obtain ⟨hs, hp⟩ := hl.keeps_port
    obtain ⟨hs', hp'⟩ := resume_keeps_port hr
    exact ⟨hs'.trans hs, hp'.trans hp⟩

/-! ### No reset input -/

section
variable {s u t : State} {i : Instr} {r : Response} {c : Control}

theorem Launches.env_eq (h : Launches s i c u) : u.env = s.env := by
  cases h with
  | lnkSend u he | lnkSync u he => obtain ⟨-, rfl⟩ := encodeTx_eq_some.mp he; rfl
  | lnkOpen | lnkClose | lnkPoll => rfl

theorem Launches.noResetInput (h : Launches s i c u) (hn : NoResetInput s) : NoResetInput (accept c u) := by
  intro e he
  exact hn e (h.env_eq ▸ he)

/-- The host's view of the state in which a launched command has stopped. -/
theorem Launches.hostView_after (h : Launches s i c u) (hn : NoResetInput s)
    (hr : resume (accept c u) = .next t) :
    hostView t = hostView (if i = .lnkSend ∨ i = .lnkSync then assignHeader s else s) :=
  (resume_hostView (h.noResetInput hn) hr).trans h.hostView_eq

/-! ### The sequence counter -/

theorem writeReg_seqcnt {q : Reg} (v : Half) (s : State) (hq : q ≠ .seqcnt) :
    (writeReg q v s).seqcnt = s.seqcnt := by
  cases q with
  | seqcnt => exact absurd rfl hq
  | _ => rfl

/-- A send that answers at once has used up its sequence number too. -/
theorem Answers.seqcnt_of_send (h : Answers s i r u) (hi : i = .lnkSend ∨ i = .lnkSync) :
    u.seqcnt = s.seqcnt + 1 ∧ u.txseq = s.seqcnt := by
  cases h with
  | sendTooLong | syncTooLong => exact ⟨rfl, rfl⟩
  | illegalOperand _ hw => obtain rfl | rfl := hi <;> cases hw
  | _ => simp at hi

theorem Answers.seqcnt_eq (h : Answers s i r u) (hsend : i ≠ .lnkSend) (hsync : i ≠ .lnkSync)
    (hreset : i ≠ .sysReset) (hwr : ∀ v, i ≠ .regWr 0x02 v) : u.seqcnt = s.seqcnt := by
  cases h with
  | sysReset => exact absurd rfl hreset
  | sendTooLong => exact absurd rfl hsend
  | syncTooLong => exact absurd rfl hsync
  | regWr num v q hnum =>
    refine writeReg_seqcnt v s ?_
    rintro rfl
    exact hwr v (hnum ▸ rfl)
  | frmEnc u he => exact congrArg HostView.seqcnt (hostView_of_encodeTx he)
  | _ => rfl

end

/-- Settles O56: `assignHeader` is where a send begins, and nothing after it writes the counter or `TXSEQ`. -/
theorem seqcntAdvancesOncePerSend : Obligations.SeqcntAdvancesOncePerSend := by
  refine ⟨fun i s t hn h => ?_, fun s t hn hb h => ?_⟩
  · obtain ⟨r, u, ha, rfl⟩ | ⟨c, u, hl, hr⟩ := exec_next h
    · exact ⟨ha.seqcnt_of_send, ha.seqcnt_eq⟩
    · have hv := hl.hostView_after hn hr
      constructor
      · intro hi
        rw [if_pos hi] at hv
        exact ⟨congrArg HostView.seqcnt hv, congrArg HostView.txseq hv⟩
      · intro hsend hsync _ _
        rw [if_neg (by simp [hsend, hsync])] at hv
        exact congrArg HostView.seqcnt hv
  · have hv := resume_hostView hn (step_of_busy hb ▸ h)
    exact ⟨congrArg HostView.seqcnt hv, congrArg HostView.txseq hv⟩

/-! ### The host's registers -/

/-- The configuration registers, `TXFC`, `TXLEN` and `TXPAY` are those of `s`. -/
abbrev KeepsHostRegs (s t : State) : Prop :=
  t.laddr = s.laddr ∧ t.plen = s.plen ∧ t.daddr = s.daddr ∧ t.tmo = s.tmo ∧ t.txdly = s.txdly ∧
  t.txfc = s.txfc ∧ t.txlen = s.txlen ∧ t.txpay = s.txpay

section
variable {s u t : State} {i : Instr} {r : Response} {c : Control}

theorem keepsHostRegs_of_hostView (h : hostView t = hostView s) : KeepsHostRegs s t :=
  ⟨congrArg HostView.laddr h, congrArg HostView.plen h, congrArg HostView.daddr h, congrArg HostView.tmo h,
    congrArg HostView.txdly h, congrArg HostView.txfc h, congrArg HostView.txlen h, congrArg HostView.txpay h⟩

theorem Answers.keepsHostRegs (h : Answers s i r u) (hreset : i ≠ .sysReset) (hreg : ∀ n v, i ≠ .regWr n v)
    (htxp : ∀ j v, i ≠ .txpWr j v) : KeepsHostRegs s u := by
  cases h with
  | sysReset => exact absurd rfl hreset
  | regWr num v => exact absurd rfl (hreg num v)
  | txpWr idx v => exact absurd rfl (htxp idx v)
  | frmEnc u he => exact keepsHostRegs_of_hostView (hostView_of_encodeTx he)
  | _ => exact ⟨rfl, rfl, rfl, rfl, rfl, rfl, rfl, rfl⟩

end

/-- Settles O57: the commands that write these registers are the three excepted, and no pass writes one. -/
theorem commandsKeepTheHostsRegisters : Obligations.CommandsKeepTheHostsRegisters := by
  refine ⟨fun i s t hn h hreset hreg htxp => ?_, fun s t hn hb h => ?_⟩
  · obtain ⟨r, u, ha, rfl⟩ | ⟨c, u, hl, hr⟩ := exec_next h
    · exact ha.keepsHostRegs hreset hreg htxp
    · have hk := keepsHostRegs_of_hostView (hl.hostView_after hn hr)
      split_ifs at hk <;> exact hk
  · exact keepsHostRegs_of_hostView (resume_hostView hn (step_of_busy hb ▸ h))

/-! ### The RX registers -/

theorem writeReg_rxView (q : Reg) (v : Half) (s : State) : rxView (writeReg q v s) = rxView s := by
  cases q <;> rfl

section
variable {s u : State} {i : Instr} {r : Response} {c : Control}

/-- A command that answers at once writes the RX registers only where `FRM.DEC` delivers the frame, or in a reset. -/
theorem Answers.rxView_eq (h : Answers s i r u) (hreset : i ≠ .sysReset) (hd : u.rxv = false ∨ i ≠ .frmDec) :
    rxView u = rxView s := by
  cases h with
  | sysReset => exact absurd rfl hreset
  | regWr num v q => exact writeReg_rxView q v s
  | frmEnc u he => exact rxView_of_encodeTx he
  | frmDec => simp at hd
  | _ => rfl

theorem Launches.rxView_eq (h : Launches s i c u) : rxView u = rxView s := by
  cases h with
  | lnkSend u he | lnkSync u he => exact (rxView_of_encodeTx he).trans rfl
  | lnkOpen | lnkClose | lnkPoll => rfl

end

theorem ne_idle_of_commandOf {s : State} {i : Instr} (h : commandOf s.ctl = some i) : s.ctl ≠ .idle := by
  intro hc
  rw [hc] at h
  cases h

/-- Settles O58: a pass that writes the RX registers delivers a frame and so ends with `RXV` = 1. -/
theorem rxRegistersChangeOnlyOnDelivery : Obligations.RxRegistersChangeOnlyOnDelivery := by
  have kept_unless_delivered {i : Instr} {s t : State} (hn : NoResetInput s) (hm : s.params.replyMatch = .any)
      (hi : commandOf s.ctl = some i) (h : resume s = .next t)
      (hd : t.rxv = false ∨ (i ≠ .lnkPoll ∧ i ≠ .lnkSync)) : rxView t = rxView s := by
    refine (resume_rxView hn hm hi h).resolve_right ?_
    rintro ⟨-, hv, hp⟩
    obtain hd | ⟨hpoll, hsync⟩ := hd
    · simp [hv] at hd
    · exact hp.elim hpoll hsync
  refine ⟨fun i s t hn hm h hreset hd => ?_, fun i s t hn hm hi h hd => ?_⟩
  · obtain ⟨r, u, ha, rfl⟩ | ⟨c, u, hl, hr⟩ := exec_next h
    · exact ha.rxView_eq hreset (hd.imp_right And.left)
    · have hm' : (accept c u).params.replyMatch = .any := (congrArg (·.replyMatch) hl.keeps_port.2).trans hm
      have hx : rxView t = rxView (accept c u) :=
        kept_unless_delivered (hl.noResetInput hn) hm' hl.commandOf_eq hr (hd.imp_right And.right)
      exact hx.trans hl.rxView_eq
  · exact kept_unless_delivered hn hm hi (step_of_busy (ne_idle_of_commandOf hi) ▸ h) hd

/-! ### The pipe and the time waited -/

/-- The pipe, and the environment's turns, are those of `s`. -/
abbrev KeepsPipe (s t : State) : Prop :=
  t.opened = s.opened ∧ t.rxq = s.rxq ∧ t.txbuf = s.txbuf ∧ t.wire = s.wire ∧ t.env = s.env

theorem writeReg_keepsPipe (q : Reg) (v : Half) (s : State) : KeepsPipe s (writeReg q v s) := by
  cases q <;> exact ⟨rfl, rfl, rfl, rfl, rfl⟩

theorem writeReg_elapsed (q : Reg) (v : Half) (s : State) : (writeReg q v s).elapsed = s.elapsed := by
  cases q <;> rfl

section
variable {s u : State} {i : Instr} {r : Response} {c : Control}

theorem Answers.keepsPipe (h : Answers s i r u) (hreset : i ≠ .sysReset) : KeepsPipe s u := by
  cases h with
  | sysReset => exact absurd rfl hreset
  | regWr num v q => exact writeReg_keepsPipe q v s
  | frmEnc u he =>
    obtain ⟨-, rfl⟩ := encodeTx_eq_some.mp he
    exact ⟨rfl, rfl, rfl, rfl, rfl⟩
  | _ => exact ⟨rfl, rfl, rfl, rfl, rfl⟩

theorem Answers.elapsed_eq (h : Answers s i r u) (hreset : i ≠ .sysReset) (hsync : i ≠ .lnkSync) :
    u.elapsed = s.elapsed := by
  cases h with
  | sysReset => exact absurd rfl hreset
  | syncTooLong => exact absurd rfl hsync
  | regWr num v q => exact writeReg_elapsed q v s
  | frmEnc u he => obtain ⟨-, rfl⟩ := encodeTx_eq_some.mp he; rfl
  | _ => rfl

theorem Launches.elapsed_eq (h : Launches s i c u) (hsync : i ≠ .lnkSync) : u.elapsed = s.elapsed := by
  cases h with
  | lnkSync => exact absurd rfl hsync
  | lnkSend u he => obtain ⟨-, rfl⟩ := encodeTx_eq_some.mp he; rfl
  | lnkOpen | lnkClose | lnkPoll => rfl

end

/-- Settles O59: a command without pipe primitives answers at once, and `ELAPSED` is counted only after a wait of
`LNK.SYNC`. -/
theorem atomicCommandsLeaveThePipe : Obligations.AtomicCommandsLeaveThePipe := by
  refine ⟨fun i s t hi hreset h => ?_, fun i s t hn hreset hsync h => ?_, fun i s t hn hi hsync h => ?_⟩
  · obtain ⟨r, u, ha, rfl⟩ | ⟨c, u, hl, -⟩ := exec_next h
    · exact ha.keepsPipe hreset
    · simp [hl.isLink_eq] at hi
  · obtain ⟨r, u, ha, rfl⟩ | ⟨c, u, hl, hr⟩ := exec_next h
    · exact ha.elapsed_eq hreset hsync
    · have he : t.elapsed = (accept c u).elapsed := resume_elapsed (hl.noResetInput hn) hl.commandOf_eq hsync hr
      exact he.trans (hl.elapsed_eq hsync)
  · exact resume_elapsed hn hi hsync (step_of_busy (ne_idle_of_commandOf hi) ▸ h)

end Sys2Proof.Machine
end

section
/-!
SUPPORT. Every step keeps the invariant of the machine (10_state.md R14, R21, R25, R27; 42_link.md R112 to R115). The
invariant falls into the part that speaks of the registers, the buffers and `RXQ` (`DataInv`), and the part on the command
in progress; each operation, each pass and each command keeps the one and the other.
-/

namespace Sys2Proof.Machine

/-! ### The two parts of the invariant -/

/-- The part of the invariant that does not speak of the command in progress. -/
structure DataInv (s : State) : Prop where
  plen : s.plen.toNat ≤ Config.maxPlen
  txpay : Memory.wf Config.payloadSize s.txpay = true
  rxpay : Memory.wf Config.payloadSize s.rxpay = true
  fbuf : Memory.wf Config.frameBufferSize s.fbuf = true
  elapsed_mod : s.elapsed.toNat % 10 = 0
  elapsed_le : s.elapsed.toNat ≤ 65540
  rxq : ∀ d, s.params.rxDepth = some d → s.rxq.length ≤ d

theorem rxWithin_iff {s : State} : rxWithin s = true ↔ ∀ d, s.params.rxDepth = some d → s.rxq.length ≤ d := by
  unfold rxWithin
  split <;> rename_i h <;> simp [h]

theorem dataInv_iff {s : State} : DataInv s ↔
    s.plen.toNat ≤ Config.maxPlen ∧ buffersWf s = true ∧ s.elapsed.toNat % 10 = 0 ∧ s.elapsed.toNat ≤ 65540 ∧
    rxWithin s = true := by
  simp only [buffersWf, Bool.and_eq_true, rxWithin_iff]
  exact ⟨fun ⟨hp, ht, hr, hf, hm, he, hq⟩ => ⟨hp, ⟨⟨ht, hr⟩, hf⟩, hm, he, hq⟩,
    fun ⟨hp, ⟨⟨ht, hr⟩, hf⟩, hm, he, hq⟩ => ⟨hp, ht, hr, hf, hm, he, hq⟩⟩

theorem blockInv_iff {s : State} :
    BlockInv s ↔ DataInv s ∧ (s.ctl = .idle ∨ s.response = none) ∧ controlOk s = true := by
  simp only [BlockInv, dataInv_iff, and_assoc]

theorem controlOk_of_idle {s : State} (h : s.ctl = .idle) : controlOk s = true := by
  simp [controlOk, h]

/-- Where no command is in progress, the first part is all of the invariant. -/
theorem blockInv_of_idle {s : State} (hd : DataInv s) (h : s.ctl = .idle) : BlockInv s :=
  blockInv_iff.mpr ⟨hd, .inl h, controlOk_of_idle h⟩

/-! ### What each operation does to the first part -/

section
variable {s : State}

theorem DataInv.respond (h : DataInv s) (rc : ResultCode) (v : Word) : DataInv (respond rc v s) := { h with }

theorem DataInv.setCtl (h : DataInv s) (c : Control) : DataInv (setCtl c s) := { h with }

theorem DataInv.accept (h : DataInv s) (c : Control) : DataInv (accept c s) := { h with }

theorem DataInv.setCrc (h : DataInv s) (c : Half) : DataInv (setCrc c s) := { h with }

theorem DataInv.clearRxv (h : DataInv s) : DataInv (clearRxv s) := { h with }

theorem DataInv.assignHeader (h : DataInv s) : DataInv (assignHeader s) := { h with }

theorem DataInv.pipeOpened (h : DataInv s) : DataInv (pipeOpened s) :=
  { h with rxq := fun _ _ => Nat.zero_le _ }

theorem DataInv.pipeDrop (h : DataInv s) (n : Nat) : DataInv (pipeDrop n s) :=
  { h with rxq := fun d hd => (List.drop_sublist n s.rxq).length_le.trans (h.rxq d hd) }

theorem DataInv.startSync (h : DataInv s) : DataInv (startSync s) :=
  { h with elapsed_mod := rfl, elapsed_le := Nat.zero_le _ }

/-- A frame fits in the frame buffer (10_state.md R25). -/
theorem DataInv.flen_le (h : DataInv s) : flen s ≤ Config.frameBufferSize := by
  have hp : s.plen.toNat ≤ 249 := h.plen
  have : s.plen.toNat + 6 ≤ 255 := by omega
  exact this

theorem DataInv.bufferFrame (h : DataInv s) {b : List Byte} (hb : b.length ≤ flen s) : DataInv (bufferFrame b s) :=
  { h with fbuf := Memory.wf_writeAll h.fbuf (by have := h.flen_le; omega) }

theorem DataInv.deliver (h : DataInv s) (b : List Byte) : DataInv (deliver b s) :=
  { h with rxpay := Memory.wf_writeAll h.rxpay (by
      have hp : s.plen.toNat ≤ Config.payloadSize := h.plen
      simp only [payloadOf, List.length_take]
      omega) }

/-- One more wait, counted while the time waited is not beyond `TMO` (42_link.md R115 lines 7 and 8). -/
theorem DataInv.countWait (h : DataInv s) (ht : s.elapsed.toNat ≤ s.tmo.toNat) :
    (countWait s).elapsed.toNat = s.elapsed.toNat + 10 ∧ DataInv (countWait s) := by
  have hmod := h.elapsed_mod
  have htmo := s.tmo.isLt
  have he : (Machine.countWait s).elapsed.toNat = s.elapsed.toNat + 10 := by
    simp only [countWait_elapsed, pollInterval]
    bv_omega
  exact ⟨he, { h with elapsed_mod := by omega, elapsed_le := by omega }⟩

/-- The frame that a poll has read and checked is in the frame buffer. -/
theorem DataInv.received (h : DataInv s) {b : List Byte} (hb : b = s.rxq.take (flen s)) :
    DataInv (checkFrame b (Machine.bufferFrame b (Machine.pipeDrop (flen s) s))) := by
  refine ((h.pipeDrop _).bufferFrame ?_).setCrc _
  rw [hb, pipeDrop_flen]
  exact List.length_take_le _ _

theorem DataInv.envMoves (h : DataInv s) (hf : rxFits (nextTurn s).arrive s = true) :
    DataInv (envMoves (nextTurn s) (dropTurn s)) := by
  have hq : ∀ d, s.params.rxDepth = some d → (s.rxq ++ (nextTurn s).arrive).length ≤ d := by
    simp only [rxFits, Bool.or_eq_true, List.isEmpty_iff, rxWithin_iff] at hf
    obtain hnil | hfits := hf
    · simpa [hnil] using h.rxq
    · exact hfits
  exact { h with rxq := hq }

/-- Every reset value is within its range, and `RXQ` is not touched (10_state.md R30). -/
theorem DataInv.resetBlock (h : DataInv s) : DataInv (resetBlock s) where
  plen := show 8 ≤ 249 by decide
  txpay := Memory.wf_nil _
  rxpay := Memory.wf_nil _
  fbuf := Memory.wf_nil _
  elapsed_mod := rfl
  elapsed_le := Nat.zero_le _
  rxq := h.rxq

/-- A write that `REG.WR` accepts: `PLEN` stays at most 249 (10_state.md R14), and nothing else the invariant speaks of
is written. -/
theorem DataInv.writeReg (h : DataInv s) {r : Reg} {v : Half} (hv : regValueRefused r v = false) :
    DataInv (writeReg r v s) := by
  cases r with
  | plen =>
    have hle : v.toNat ≤ 249 := by simpa [regValueRefused, Config.maxPlen] using hv
    have hw : (v.setWidth 8).toNat ≤ 249 := by
      simp only [BitVec.toNat_setWidth]
      omega
    exact { h with plen := hw }
  | _ => exact { h with }

/-- Serializing the TX frame (41_frame_codec.md R93). -/
theorem DataInv.encodeTx {u : State} (h : DataInv s) (he : encodeTx s = some u) :
    DataInv u ∧ u.fblen.toNat = flen u := by
  obtain ⟨hl, rfl⟩ := encodeTx_eq_some.mp he
  refine ⟨(h.bufferFrame (length_txFrame hl).le).setCrc _, ?_⟩
  have hf : flen s ≤ 255 := h.flen_le
  simp only [setCrc_fblen, bufferFrame_fblen, setCrc_flen, bufferFrame_flen, BitVec.toNat_ofNat]
  omega

end

/-! ### A pass -/

theorem sendingOk_iff {c : Caller} {s : State} : sendingOk c s = true ↔
    s.fblen.toNat = flen s ∧ (c = .own ∨ (s.rxv = false ∧ s.elapsed = 0)) := by
  simp [sendingOk]

theorem pollingOk_iff {c : Caller} {s : State} : pollingOk c s = true ↔
    s.rxv = false ∧ (c = .own ∨
      (reqAck s.txfc = true ∧ s.elapsed.toNat ≤ 10 * (s.tmo.toNat / 10 + 1))) := by
  simp [pollingOk]

section
variable {f : Option Nat} {u t : State}

theorem Pass.dataInv (h : Pass f u t) (hd : DataInv u) (hc : controlOk u = true) : DataInv t := by
  cases h with
  | opens => exact hd.pipeOpened.respond _ _
  | badFrame c b v _ _ _ hb hv => exact (hv ▸ hd.received hb).respond _ _
  | foreignFrame c b v _ _ _ hb hv => exact (hv ▸ hd.received hb).setCtl _
  | delivers c b v _ _ _ hb hv => exact (hv ▸ (hd.received hb).deliver b).respond _ _
  | dropsTimeout b v _ _ _ hb hv => exact (hv ▸ (hd.received hb).deliver b).clearRxv.respond _ _
  | dropsWaits b v _ _ _ hb hv => exact (hv ▸ (hd.received hb).deliver b).clearRxv.setCtl _
  | pollsAgain hw =>
    have ht : u.elapsed.toNat ≤ u.tmo.toNat := by
      simp only [controlOk, hw, Bool.and_eq_true, Nat.ble_eq] at hc
      exact hc.2
    exact (hd.countWait ht).2.setCtl _
  | _ => exact { hd with }

/-- A pass that does not end the command gives no response (30_encoding.md R70). -/
theorem Pass.idle_or_no_response (h : Pass f u t) (hr : u.ctl = .idle ∨ u.response = none) :
    t.ctl = .idle ∨ t.response = none := by
  have none_of_busy (hb : u.ctl ≠ .idle) : u.response = none := hr.resolve_left hb
  cases h with
  | idle hu => exact .inl hu
  | foreignFrame _ _ _ hu _ _ _ hv | dropsWaits _ _ hu _ _ _ hv =>
    exact .inr (by simpa [hv] using none_of_busy (by simp [hu]))
  | writes _ hu | byteWrites _ _ hu | byteFlushes _ _ hu | nextByte _ _ hu | lastByte _ _ hu | available _ hu
  | sentSync hu | waits hu | pollsAgain hu => exact .inr (none_of_busy (by simp [hu]))
  | _ => exact .inl rfl

/-- The pseudocode goes on to a point where the state is as it has to be there (42_link.md R112 to R115). -/
theorem Pass.controlOk_of (h : Pass f u t) (hd : DataInv u) (hc : controlOk u = true) : controlOk t = true := by
  cases h with
  | idle => exact hc
  | writes c hu | byteWrites c i hu | byteFlushes c i hu =>
    simpa [controlOk, hu, sendingOk_iff] using hc
  | nextByte c i hu hi =>
    simp only [controlOk, hu, Bool.and_eq_true] at hc
    simpa [controlOk, sendingOk_iff, hi] using hc.1
  | lastByte c i hu =>
    simp only [controlOk, hu, Bool.and_eq_true] at hc
    simpa [controlOk, sendingOk_iff] using hc.1
  | sentSync hu _ hr =>
    simp only [controlOk, hu, sendingOk_iff] at hc
    obtain ⟨-, hc | ⟨hv, he⟩⟩ := hc
    · cases hc
    · simp [controlOk, pollingOk_iff, hv, he, hr]
  | waits hu _ _ he =>
    simp only [controlOk, hu, pollingOk_iff] at hc
    simpa [controlOk, pollingOk_iff, he] using hc
  | available c hu _ hl =>
    simp only [controlOk, hu, pollingOk_iff] at hc
    simpa [controlOk, pollingOk_iff, hl] using hc
  | foreignFrame c b v hu _ _ _ hv =>
    simp only [controlOk, hu, Bool.and_eq_true, pollingOk_iff] at hc
    simpa [controlOk, pollingOk_iff, hv] using hc.1
  | dropsWaits b v hu _ _ _ hv _ _ _ he =>
    simp only [controlOk, hu, Bool.and_eq_true, pollingOk_iff] at hc
    simpa [controlOk, pollingOk_iff, hv, he] using hc.1.2
  | pollsAgain hu =>
    simp only [controlOk, hu, Bool.and_eq_true, Nat.ble_eq, pollingOk_iff] at hc
    obtain ⟨⟨hv, hc | ⟨hr, -⟩⟩, he⟩ := hc
    · cases hc
    · have hmod := hd.elapsed_mod
      have hnext : (countWait u).elapsed.toNat ≤ 10 * (u.tmo.toNat / 10 + 1) := by
        rw [(hd.countWait he).1]
        omega
      simpa [controlOk, pollingOk_iff, hv, hr] using hnext
  | _ => exact controlOk_of_idle rfl

theorem Pass.blockInv (h : Pass f u t) (hi : BlockInv u) : BlockInv t := by
  obtain ⟨hd, hr, hc⟩ := blockInv_iff.mp hi
  exact blockInv_iff.mpr ⟨h.dataInv hd hc, h.idle_or_no_response hr, h.controlOk_of hd hc⟩

end

/-! ### A step -/

/-- The environment takes no byte out of `RXQ`, and touches nothing else that a position in a command rests on. -/
theorem controlOk_envMoves {s : State} (h : controlOk s = true) (m : EnvTurn) :
    controlOk (envMoves m (dropTurn s)) = true := by
  cases hc : s.ctl with
  | idle => exact controlOk_of_idle hc
  | run p =>
    cases p with
    | read c =>
      simp only [controlOk, hc, Bool.and_eq_true, Nat.ble_eq] at h
      have hl : flen s ≤ s.rxq.length + m.arrive.length := by omega
      simpa [controlOk, hc, hl, pollingOk_iff] using h.1
    | opening | closing => simp [controlOk, hc]
    | write | byteWrite | byteFlush | flush | avail =>
      simpa [controlOk, hc, sendingOk_iff, pollingOk_iff] using h
  | wait w =>
    cases w with
    | byte | poll => simpa [controlOk, hc, sendingOk_iff, pollingOk_iff] using h

theorem blockInv_envMoves {s : State} (h : BlockInv s) (hf : rxFits (nextTurn s).arrive s = true) :
    BlockInv (envMoves (nextTurn s) (dropTurn s)) := by
  obtain ⟨hd, hr, hc⟩ := blockInv_iff.mp h
  exact blockInv_iff.mpr ⟨hd.envMoves hf, hr, controlOk_envMoves hc _⟩

theorem blockInv_resetBlock {s : State} (h : BlockInv s) : BlockInv (resetBlock s) :=
  blockInv_of_idle (blockInv_iff.mp h).1.resetBlock rfl

/-- A step of a command in progress, reset inputs included. -/
theorem resume_keeps_blockInv {s t : State} (hi : BlockInv s) (h : resume s = .next t) : BlockInv t := by
  refine carryOn_induct ?_ hi h
  intro u v hu _ ha
  obtain ⟨hf, ⟨-, rfl⟩ | ⟨-, hp⟩⟩ := advance_next ha
  · exact blockInv_resetBlock (blockInv_envMoves hu hf)
  · exact hp.blockInv (blockInv_envMoves hu hf)

theorem idleStep_keeps_blockInv {s t : State} (hi : BlockInv s) (h : idleStep s = .next t) : BlockInv t := by
  obtain ⟨hf, ⟨-, rfl⟩ | ⟨-, ht⟩⟩ := withTurn_next h
  · exact blockInv_resetBlock (blockInv_envMoves hi hf)
  · cases ht
    exact blockInv_envMoves hi hf

section
variable {s u : State} {i : Instr} {r : Response} {c : Control}

theorem Answers.dataInv (h : Answers s i r u) (hd : DataInv s) : DataInv u := by
  cases h with
  | sysReset => exact hd.resetBlock
  | regWr num v q _ _ hv => exact hd.writeReg hv
  | crcInit | crcUpd => exact hd.setCrc _
  | frmEnc u he => exact (hd.encodeTx he).1
  | frmDecLength => exact hd.clearRxv
  | frmDecFcs => exact hd.clearRxv.setCrc _
  | frmDec => exact (hd.clearRxv.setCrc _).deliver _
  | txpWr idx v hi => exact { hd with txpay := Memory.wf_write hd.txpay hi }
  | fbWr idx v hi => exact { hd with fbuf := Memory.wf_write hd.fbuf hi }
  | sendTooLong => exact hd.assignHeader
  | syncTooLong => exact hd.startSync.assignHeader
  | illegalOperand | regRd | crcFin | frmEncTooLong | frmErrc | rxpRd | fbRd => exact hd

theorem controlOk_firstWrite {k : Caller} (h : sendingOk k u = true) :
    controlOk (accept (.run (firstWrite k u)) u) = true := by
  rw [sendingOk_iff] at h
  have hl : 0 < flen u := Nat.succ_pos _
  unfold firstWrite
  split <;> simpa [controlOk, sendingOk_iff, hl] using h

/-- A command goes to its first interleaving point with the state as it has to be there. -/
theorem Launches.dataInv_controlOk (h : Launches s i c u) (hd : DataInv s) :
    DataInv u ∧ controlOk (accept c u) = true := by
  cases h with
  | lnkOpen | lnkClose => exact ⟨hd, rfl⟩
  | lnkPoll => exact ⟨hd.clearRxv, by simp [controlOk, pollingOk_iff]⟩
  | lnkSend u he =>
    obtain ⟨hu, hl⟩ := hd.assignHeader.encodeTx he
    exact ⟨hu, controlOk_firstWrite (sendingOk_iff.mpr ⟨hl, .inl rfl⟩)⟩
  | lnkSync u he =>
    obtain ⟨hu, hl⟩ := hd.startSync.assignHeader.encodeTx he
    obtain ⟨-, rfl⟩ := encodeTx_eq_some.mp he
    exact ⟨hu, controlOk_firstWrite (sendingOk_iff.mpr ⟨hl, .inr ⟨rfl, rfl⟩⟩)⟩

theorem exec_keeps_blockInv {t : State} (hd : DataInv s) (h : exec i s = .next t) : BlockInv t := by
  obtain ⟨r, u, ha, rfl⟩ | ⟨c, u, hl, hr⟩ := exec_next h
  · exact blockInv_of_idle ((ha.dataInv hd).respond _ _) rfl
  · obtain ⟨hu, hc⟩ := hl.dataInv_controlOk hd
    exact resume_keeps_blockInv (blockInv_iff.mpr ⟨hu.accept c, .inr rfl, hc⟩) hr

theorem present_keeps_blockInv {w : Word} {t : State} (hd : DataInv s) (h : present w s = .next t) : BlockInv t := by
  unfold present at h
  split at h
  · exact exec_keeps_blockInv hd h
  · cases h
    exact blockInv_of_idle (hd.respond _ _) rfl

end

/-- Settles O52, by the four cases of a step: a command in progress goes on, a word is taken, or none is presented. -/
theorem everyStepKeepsInv : Obligations.EveryStepKeepsInv := by
  intro s t hi h
  have hd : DataInv s := (blockInv_iff.mp hi).1
  by_cases hc : s.ctl = .idle
  · match hs : s.script with
    | some w :: rest =>
      rw [step_of_word hc hs] at h
      exact present_keeps_blockInv (s := { s with script := rest }) { hd with } h
    | [] =>
      rw [step_of_no_word hc (.inl hs)] at h
      exact idleStep_keeps_blockInv (s := { s with script := s.script.tail }) hi h
    | none :: rest =>
      rw [step_of_no_word hc (.inr ⟨rest, hs⟩)] at h
      exact idleStep_keeps_blockInv (s := { s with script := s.script.tail }) hi h
  · exact resume_keeps_blockInv hi (step_of_busy hc ▸ h)

end Sys2Proof.Machine
end

section
/-!
SUPPORT. Progress: every step from a state of the invariant answers a next state, bytes beyond a finite `RX_DEPTH` apart
(20_memory.md R44; 93_implementation_defined.md U11). What each function of the engine needs in order to answer is said
once; only a read needs anything, the bytes that the poll before it found.
-/

namespace Sys2Proof.Machine

/-! ### What a step is -/

/-- The cases of a step, whatever the host's words are. -/
theorem step_cases (s : State) :
    (s.ctl ≠ .idle ∧ step s = resume s) ∨
    (s.ctl = .idle ∧ ∃ w, step s = present w { s with script := s.script.tail }) ∨
    (s.ctl = .idle ∧ step s = idleStep { s with script := s.script.tail }) := by
  by_cases hc : s.ctl = .idle
  · match hs : s.script with
    | some w :: rest => exact .inr (.inl ⟨hc, w, step_of_word hc hs⟩)
    | none :: rest => exact .inr (.inr ⟨hc, hs ▸ step_of_no_word hc (.inr ⟨rest, hs⟩)⟩)
    | [] => exact .inr (.inr ⟨hc, hs ▸ step_of_no_word hc (.inl hs)⟩)
  · exact .inl ⟨hc, step_of_busy hc⟩

section
variable (num idx : Byte) (v : Half) (s : State)

theorem execRegRd_answers : ∃ t, execRegRd num s = .next t := by
  unfold execRegRd
  split <;> exact ⟨_, rfl⟩

theorem execRegWr_answers : ∃ t, execRegWr num v s = .next t := by
  unfold execRegWr
  split
  · exact ⟨_, rfl⟩
  · split_ifs <;> exact ⟨_, rfl⟩

theorem execFrmEnc_answers : ∃ t, execFrmEnc s = .next t := by
  unfold execFrmEnc
  split <;> exact ⟨_, rfl⟩

theorem execFrmDec_answers : ∃ t, execFrmDec s = .next t := by
  unfold execFrmDec decodeBuffer
  split
  · exact ⟨_, rfl⟩
  · split <;> exact ⟨_, rfl⟩

theorem execTxpWr_answers : ∃ t, execTxpWr idx v s = .next t := by
  unfold execTxpWr
  split_ifs <;> exact ⟨_, rfl⟩

theorem execRxpRd_answers : ∃ t, execRxpRd idx s = .next t := by
  unfold execRxpRd
  split_ifs <;> exact ⟨_, rfl⟩

theorem execFbWr_answers : ∃ t, execFbWr idx v s = .next t := by
  unfold execFbWr
  split_ifs <;> exact ⟨_, rfl⟩

theorem execFbRd_answers : ∃ t, execFbRd idx s = .next t := by
  unfold execFbRd
  split_ifs <;> exact ⟨_, rfl⟩

/-- A send ends at once because its payload is too long, or is carried on from its first write. -/
theorem startSend_answers_or_launches (c : Caller) : (∃ t, startSend c s = .next t) ∨
    ∃ u, encodeTx (assignHeader s) = some u ∧ startSend c s = resume (accept (.run (firstWrite c u)) u) := by
  unfold startSend
  split <;> rename_i he
  · exact .inl ⟨_, rfl⟩
  · exact .inr ⟨_, he, rfl⟩

/-- A command ends in the step that takes it, or is carried on from its first interleaving point. -/
theorem exec_answers_or_launches (i : Instr) :
    (∃ t, exec i s = .next t) ∨ ∃ c u, Launches s i c u ∧ exec i s = resume (accept c u) := by
  cases i with
  | sysReset | crcInit | crcUpd | crcFin | frmErrc => exact .inl ⟨_, rfl⟩
  | regRd num => exact .inl (execRegRd_answers num s)
  | regWr num v => exact .inl (execRegWr_answers num v s)
  | frmEnc => exact .inl (execFrmEnc_answers s)
  | frmDec => exact .inl (execFrmDec_answers s)
  | txpWr idx v => exact .inl (execTxpWr_answers idx v s)
  | rxpRd idx => exact .inl (execRxpRd_answers idx s)
  | fbWr idx v => exact .inl (execFbWr_answers idx v s)
  | fbRd idx => exact .inl (execFbRd_answers idx s)
  | lnkOpen => exact .inr ⟨_, _, .lnkOpen, rfl⟩
  | lnkClose => exact .inr ⟨_, _, .lnkClose, rfl⟩
  | lnkPoll => exact .inr ⟨_, _, .lnkPoll, rfl⟩
  | lnkSend =>
    exact (startSend_answers_or_launches s .own).imp_right fun ⟨u, he, h⟩ => ⟨_, u, .lnkSend u he, h⟩
  | lnkSync =>
    exact (startSend_answers_or_launches (startSync s) .sync).imp_right fun ⟨u, he, h⟩ => ⟨_, u, .lnkSync u he, h⟩

end

/-! ### A pass answers -/

section
variable (c : Caller) (i : Nat) (f : Option Nat) (u : State)

theorem atOpen_answers : ∃ t, atOpen f u = .next t := by
  unfold atOpen
  split <;> exact ⟨_, rfl⟩

theorem atClose_answers : ∃ t, atClose f u = .next t := by
  unfold atClose
  split <;> exact ⟨_, rfl⟩

theorem atWrite_answers : ∃ t, atWrite c f u = .next t := by
  unfold atWrite
  split <;> exact ⟨_, rfl⟩

theorem atByteWrite_answers : ∃ t, atByteWrite c i f u = .next t := by
  unfold atByteWrite
  split <;> exact ⟨_, rfl⟩

theorem atByteFlush_answers : ∃ t, atByteFlush c i f u = .next t := by
  unfold atByteFlush
  split <;> exact ⟨_, rfl⟩

theorem afterByte_answers : ∃ t, afterByte c i u = .next t := by
  unfold afterByte
  split <;> exact ⟨_, rfl⟩

theorem sent_answers : ∃ t, sent c u = .next t := by
  cases c with
  | own => exact ⟨_, rfl⟩
  | sync =>
    unfold sent
    dsimp only
    split <;> exact ⟨_, rfl⟩

theorem atFlush_answers : ∃ t, atFlush c f u = .next t := by
  unfold atFlush
  split
  · exact ⟨_, rfl⟩
  · exact sent_answers c _

theorem noReply_answers : ∃ t, noReply u = .next t := by
  unfold noReply
  split <;> exact ⟨_, rfl⟩

theorem atAvail_answers : ∃ t, atAvail c f u = .next t := by
  unfold atAvail
  split
  · exact ⟨_, rfl⟩
  · split
    · cases c with
      | own => exact ⟨_, rfl⟩
      | sync => exact noReply_answers u
    · exact ⟨_, rfl⟩

theorem delivered_answers : ∃ t, delivered c u = .next t := by
  cases c with
  | own => exact ⟨_, rfl⟩
  | sync =>
    unfold delivered
    dsimp only
    split
    · exact ⟨_, rfl⟩
    · exact noReply_answers _

theorem gotFrame_answers (b : List Byte) : ∃ t, gotFrame c b u = .next t := by
  unfold gotFrame
  split
  · exact ⟨_, rfl⟩
  · exact delivered_answers c _
  · exact ⟨_, rfl⟩

/-- The one place where the engine could stop: a read with fewer than `FLEN` bytes in `RXQ`. -/
theorem atRead_answers (hl : flen u ≤ u.rxq.length) : ∃ t, atRead c f u = .next t := by
  unfold atRead
  rw [blt_eq_false.mpr hl]
  split
  · exact ⟨_, rfl⟩
  · contradiction
  · exact gotFrame_answers c _ _

/-- Where the position of the command agrees with the state, a read finds the bytes it asks for (20_memory.md R44). -/
theorem atPoint_answers (hc : controlOk u = true) : ∃ t, atPoint f u = .next t := by
  unfold atPoint
  split <;> rename_i hu
  · exact ⟨_, rfl⟩
  · exact atOpen_answers f u
  · exact atClose_answers f u
  · exact atWrite_answers _ f u
  · exact atByteWrite_answers _ _ f u
  · exact atByteFlush_answers _ _ f u
  · exact atFlush_answers _ f u
  · exact atAvail_answers _ f u
  · simp only [controlOk, hu, Bool.and_eq_true, Nat.ble_eq] at hc
    exact atRead_answers _ f u hc.2
  · exact afterByte_answers _ _ u
  · exact ⟨_, rfl⟩

end

/-! ### A step answers, or bytes overflow `RXQ` -/

/-- A next state, or the refusal that a finite `RX_DEPTH` allows (93_implementation_defined.md U11). -/
abbrev AnswersOrOverflows (p : Config.Params) (r : Result) : Prop :=
  (∃ t, r = .next t) ∨ (p.rxDepth ≠ none ∧ r = .refused .rxOverflow)

theorem rxFits_of_unbounded {s : State} (h : s.params.rxDepth = none) (bs : List Byte) : rxFits bs s = true := by
  simp [rxFits, rxWithin, h]

theorem withTurn_answers {s : State} {k : Option Nat → State → Result}
    (hk : rxFits (nextTurn s).arrive s = true →
      ∃ t, k (nextTurn s).fail (envMoves (nextTurn s) (dropTurn s)) = .next t) :
    AnswersOrOverflows s.params (withTurn s k) := by
  cases hf : rxFits (nextTurn s).arrive s with
  | false =>
    have hd : s.params.rxDepth ≠ none := fun hn => by simp [rxFits_of_unbounded hn] at hf
    exact .inr ⟨hd, by simp [withTurn, hf]⟩
  | true =>
    cases hr : (nextTurn s).resetInput with
    | true => exact .inl ⟨resetBlock (envMoves (nextTurn s) (dropTurn s)), by simp [withTurn, hf, hr]⟩
    | false =>
      rw [withTurn_of_ready hf hr]
      exact .inl (hk hf)

theorem idleStep_answers (s : State) : AnswersOrOverflows s.params (idleStep s) :=
  withTurn_answers fun _ => ⟨_, rfl⟩

theorem advance_answers {s : State} (hi : BlockInv s) : AnswersOrOverflows s.params (advance s) :=
  withTurn_answers fun hf => atPoint_answers _ _ (blockInv_iff.mp (blockInv_envMoves hi hf)).2.2

theorem advance_keeps_blockInv {s t : State} (hi : BlockInv s) (h : advance s = .next t) : BlockInv t := by
  obtain ⟨hf, ⟨-, rfl⟩ | ⟨-, hp⟩⟩ := advance_next h
  · exact blockInv_resetBlock (blockInv_envMoves hi hf)
  · exact hp.blockInv (blockInv_envMoves hi hf)

theorem advance_params {s t : State} (h : advance s = .next t) : t.params = s.params := by
  obtain ⟨-, ⟨-, rfl⟩ | ⟨-, hp⟩⟩ := advance_next h
  · rfl
  · exact (congrArg HostView.params hp.hostView_eq :)

theorem carryOn_answers {n : Nat} {s : State} (hi : BlockInv s) : AnswersOrOverflows s.params (carryOn n s) := by
  induction n generalizing s with
  | zero => exact .inl ⟨s, rfl⟩
  | succ n ih =>
    cases hc : canAdvance s with
    | false => exact .inl ⟨s, carryOn_of_stopped hc⟩
    | true =>
      obtain ⟨u, ha⟩ | ⟨hd, ha⟩ := advance_answers hi
      · rw [carryOn_succ_next hc ha, ← advance_params ha]
        exact ih (advance_keeps_blockInv hi ha)
      · exact .inr ⟨hd, by simp [carryOn, hc, ha]⟩

theorem exec_answers {s : State} (i : Instr) (hd : DataInv s) : AnswersOrOverflows s.params (exec i s) := by
  obtain h | ⟨c, u, hl, h⟩ := exec_answers_or_launches s i
  · exact .inl h
  · obtain ⟨hu, hc⟩ := hl.dataInv_controlOk hd
    rw [h, ← hl.keeps_port.2]
    exact carryOn_answers (blockInv_iff.mpr ⟨hu.accept c, .inr rfl, hc⟩)

theorem present_answers {s : State} (w : Word) (hd : DataInv s) : AnswersOrOverflows s.params (present w s) := by
  unfold present
  split
  · exact exec_answers _ hd
  · exact .inl ⟨_, rfl⟩

/-- Settles O53: each pass answers because the invariant holds where it begins, and keeps the invariant for the next. -/
theorem everyStepOfInvAnswers : Obligations.EveryStepOfInvAnswers := by
  intro s hi
  have hd : DataInv { s with script := s.script.tail } := { (blockInv_iff.mp hi).1 with }
  obtain ⟨-, h⟩ | ⟨-, w, h⟩ | ⟨-, h⟩ := step_cases s <;> rw [h]
  · exact carryOn_answers hi
  · exact present_answers w hd
  · exact idleStep_answers _

end Sys2Proof.Machine
end

section
/-!
SUPPORT. What a step gives to the pipe (20_memory.md R43, R45, R50, R58, R59): `WIRE` only grows, and a send gives the
pipe its frame in order, whose last byte is on the line where the send ends with `OK`.
-/

namespace Sys2Proof.Machine

/-! ### `WIRE` -/

theorem Pass.wire_prefix {f : Option Nat} {u t : State} (h : Pass f u t) : u.wire <+: t.wire := by
  cases h with
  | byteFlushes | sent | sentSync => exact List.prefix_append u.wire u.txbuf
  | badFrame _ _ _ _ _ _ _ hv | foreignFrame _ _ _ _ _ _ _ hv | delivers _ _ _ _ _ _ _ hv
  | dropsTimeout _ _ _ _ _ _ hv | dropsWaits _ _ _ _ _ _ hv => simp [hv]
  | _ => exact List.prefix_rfl

theorem envMoves_wire_prefix (m : EnvTurn) (s : State) : s.wire <+: (envMoves m (dropTurn s)).wire :=
  List.prefix_append s.wire _

theorem resume_wire_prefix {s t : State} (h : resume s = .next t) : s.wire <+: t.wire := by
  refine carryOn_induct (P := fun u => s.wire <+: u.wire) ?_ List.prefix_rfl h
  intro u v hu _ ha
  have hm := hu.trans (envMoves_wire_prefix (nextTurn u) u)
  obtain ⟨-, ⟨-, rfl⟩ | ⟨-, hp⟩⟩ := advance_next ha
  · exact hm
  · exact hm.trans hp.wire_prefix

theorem idleStep_wire_prefix {s t : State} (h : idleStep s = .next t) : s.wire <+: t.wire := by
  have hm := envMoves_wire_prefix (nextTurn s) s
  obtain ⟨-, ⟨-, rfl⟩ | ⟨-, ht⟩⟩ := withTurn_next h
  · exact hm
  · cases ht
    exact hm

section
variable {s u t : State} {i : Instr} {r : Response} {c : Control}

theorem Answers.wire_eq (h : Answers s i r u) : u.wire = s.wire := by
  by_cases hi : i = .sysReset
  · subst hi
    cases h <;> rfl
  · obtain ⟨-, -, -, hw, -⟩ := h.keepsPipe hi
    exact hw

theorem Launches.keepsPipe (h : Launches s i c u) : KeepsPipe s u := by
  cases h with
  | lnkSend u he | lnkSync u he =>
    obtain ⟨-, rfl⟩ := encodeTx_eq_some.mp he
    exact ⟨rfl, rfl, rfl, rfl, rfl⟩
  | lnkOpen | lnkClose | lnkPoll => exact ⟨rfl, rfl, rfl, rfl, rfl⟩

theorem exec_wire_prefix (h : exec i s = .next t) : s.wire <+: t.wire := by
  obtain ⟨r, u, ha, rfl⟩ | ⟨c, u, hl, hr⟩ := exec_next h
  · exact ha.wire_eq ▸ List.prefix_rfl
  · obtain ⟨-, -, -, hw, -⟩ := hl.keepsPipe
    exact hw ▸ resume_wire_prefix (s := accept c u) hr

theorem present_wire_prefix {w : Word} (h : present w s = .next t) : s.wire <+: t.wire := by
  unfold present at h
  split at h
  · exact exec_wire_prefix h
  · cases h
    exact List.prefix_rfl

end

/-- Settles O55: only a flush and the environment write `WIRE`, and both append to it. -/
theorem wireOnlyGrows : Obligations.WireOnlyGrows := by
  intro s t h
  have hp : s.wire <+: t.wire := by
    obtain ⟨-, e⟩ | ⟨-, w, e⟩ | ⟨-, e⟩ := step_cases s <;> rw [e] at h
    · exact resume_wire_prefix h
    · exact present_wire_prefix (s := { s with script := s.script.tail }) h
    · exact idleStep_wire_prefix (s := { s with script := s.script.tail }) h
  obtain ⟨bs, hbs⟩ := hp
  exact ⟨bs, hbs.symm⟩

/-! ### How far a send has come -/

/-- What a `LNK.SEND` of the frame `b` has given to the pipe where it is at a point (42_link.md R112, R113). -/
inductive GivenAt (b : List Byte) : Control → List Byte → Prop where
  | write : GivenAt b (.run (.write .own)) []
  | byteWrite (i : Nat) : i < b.length → GivenAt b (.run (.byteWrite .own i)) (b.take i)
  | byteFlush (i : Nat) : GivenAt b (.run (.byteFlush .own i)) (b.take (i + 1))
  | byteWait (i : Nat) : GivenAt b (.wait (.byte .own i)) (b.take (i + 1))
  | flush : GivenAt b (.run (.flush .own)) b

/-- A `LNK.SEND` of the frame `b`, begun when `base` had been given to the pipe, and no reset since: it is under way, or
it has ended with `OK` and its frame on the line, or a primitive has failed. -/
inductive SendState (base b : List Byte) (u : State) : Prop where
  | sending (g : List Byte) : frameToSend u = b → GivenAt b u.ctl g → sentSoFar u = base ++ g → SendState base b u
  | sent : u.ctl = .idle → u.wire = base ++ b → u.txbuf = [] → SendState base b u
  | failed (n : Nat) : u.ctl = .idle → u.response = some ⟨.linkIo, 0⟩ → sentSoFar u = base ++ b.take n →
      SendState base b u

theorem GivenAt.eq_take {b g : List Byte} {c : Control} (h : GivenAt b c g) : ∃ n, g = b.take n := by
  cases h with
  | write => exact ⟨0, rfl⟩
  | byteWrite i => exact ⟨i, rfl⟩
  | byteFlush i | byteWait i => exact ⟨i + 1, rfl⟩
  | flush => exact ⟨b.length, b.take_length.symm⟩

theorem GivenAt.not_idle {b g : List Byte} : ¬ GivenAt b .idle g := nofun

/-- The environment only moves bytes from `TXBUF` to `WIRE` (20_memory.md R50). -/
theorem sentSoFar_envMoves (m : EnvTurn) (s : State) : sentSoFar (envMoves m (dropTurn s)) = sentSoFar s := by
  simp [sentSoFar]

theorem sentSoFar_pipeWrite (bs : List Byte) (s : State) : sentSoFar (pipeWrite bs s) = sentSoFar s ++ bs := by
  simp [sentSoFar]

theorem sentSoFar_pipeFlushed (s : State) : sentSoFar (pipeFlushed s) = sentSoFar s := by
  simp [sentSoFar]

theorem length_frameToSend (s : State) : (frameToSend s).length = flen s := by
  simp [frameToSend]

/-- One byte more of the frame in the frame buffer. -/
theorem take_succ_frameToSend {s : State} {i : Nat} (h : i < (frameToSend s).length) :
    (frameToSend s).take (i + 1) = (frameToSend s).take i ++ [Memory.read s.fbuf i] := by
  have hb : (frameToSend s)[i] = Memory.read s.fbuf i := by
    rw [← List.getD_eq_getElem _ 0 h]
    simpa [frameToSend] using Memory.getD_readAll (m := s.fbuf) (a := 0) (length_frameToSend s ▸ h)
  rw [← hb, List.take_concat_get']

/-- A failing write of the next byte may add that byte, and leaves the first bytes of the frame given
(20_memory.md R45). -/
theorem take_append_take_frameToSend {s : State} {i : Nat} (h : i < (frameToSend s).length) (k : Nat) :
    ∃ n, (frameToSend s).take i ++ [Memory.read s.fbuf i].take k = (frameToSend s).take n := by
  cases k with
  | zero => exact ⟨i, List.append_nil _⟩
  | succ k => exact ⟨i + 1, by simp [take_succ_frameToSend h]⟩

section
variable {base b : List Byte}

theorem SendState.envMoves {s : State} (h : SendState base b s) (m : EnvTurn) :
    SendState base b (envMoves m (dropTurn s)) := by
  cases h with
  | sending g hf hg hs => exact .sending g hf hg ((sentSoFar_envMoves m s).trans hs)
  | sent hc hw ht => exact .sent hc (by simp [hw, ht]) (by simp [ht])
  | failed n hc hr hs => exact .failed n hc hr ((sentSoFar_envMoves m s).trans hs)

/-- Each write of a send appends to what was given before it; each failure leaves the first bytes of the frame given. -/
theorem SendState.of_pass {f : Option Nat} {u t : State} (h : SendState base b u) (hb : u.ctl ≠ .idle)
    (hp : Pass f u t) : SendState base b t := by
  obtain ⟨g, hf, hg, hs⟩ | ⟨hc, -, -⟩ | ⟨n, hc, -, -⟩ := h
  · have failed : SendState base b (respond .linkIo 0 u) := by
      obtain ⟨n, rfl⟩ := hg.eq_take
      exact .failed n rfl rfl hs
    have given (bs : List Byte) : sentSoFar (pipeWrite bs u) = base ++ (g ++ bs) := by
      rw [sentSoFar_pipeWrite, hs, List.append_assoc]
    cases hp with
    | byteFlushFails | flushFails => exact failed
    | writeFails c hu =>
      rw [hu] at hg
      cases hg
      exact .failed (f.getD 0) rfl rfl (hf ▸ given _)
    | writes c hu =>
      rw [hu] at hg
      cases hg
      exact .sending b hf .flush (hf ▸ given _)
    | byteWriteFails c i hu =>
      rw [hu] at hg
      cases hg with
      | byteWrite _ hi =>
        subst hf
        obtain ⟨n, hn⟩ := take_append_take_frameToSend hi (f.getD 0)
        exact .failed n rfl rfl (hn ▸ given _)
    | byteWrites c i hu =>
      rw [hu] at hg
      cases hg with
      | byteWrite _ hi =>
        refine .sending _ hf (.byteFlush i) ((given _).trans ?_)
        subst hf
        rw [take_succ_frameToSend hi]
    | byteFlushes c i hu =>
      rw [hu] at hg
      cases hg
      exact .sending _ hf (.byteWait i) ((sentSoFar_pipeFlushed u).trans hs)
    | nextByte c i hu hi =>
      rw [hu] at hg
      cases hg
      exact .sending _ hf (.byteWrite (i + 1) (by rwa [← hf, length_frameToSend])) hs
    | lastByte c i hu hi =>
      rw [hu] at hg
      cases hg
      have hl : b.length ≤ i + 1 := by rwa [← hf, length_frameToSend]
      exact .sending b hf .flush (by rwa [List.take_of_length_le hl] at hs)
    | sent c hu =>
      rw [hu] at hg
      cases hg
      exact .sent rfl hs rfl
    | idle hu | openFails hu | opens hu | closeFails hu | closes hu | sentSync hu | availFails _ hu | noFrame hu
    | timeout hu | waits hu | available _ hu | readFails _ hu | badFrame _ _ _ hu | foreignFrame _ _ _ hu
    | delivers _ _ _ hu | dropsTimeout _ _ hu | dropsWaits _ _ hu | pollsAgain hu =>
      rw [hu] at hg
      cases hg
  · exact absurd hc hb
  · exact absurd hc hb

end

/-! ### A whole send -/

theorem givenAt_firstWrite {b : List Byte} (hb : 0 < b.length) (u : State) :
    GivenAt b (.run (firstWrite .own u)) [] := by
  unfold firstWrite
  split
  · exact .write
  · exact .byteWrite 0 hb

section
variable {s t u : State} {c : Control}

/-- A send begins at its first write, with its frame in the frame buffer (42_link.md R112, R113). -/
theorem Launches.sendState (h : Launches s .lnkSend c u) (hw : buffersWf s = true) :
    ∃ b, sendFrame s = some b ∧ SendState (sentSoFar s) b (accept c u) := by
  cases h with
  | lnkSend u he =>
    obtain ⟨hl, rfl⟩ := encodeTx_eq_some.mp he
    have hfits : (suppliedPayload s).length ≤ s.plen.toNat := by simpa using hl
    have hlen : (withFcs (txBody (assignHeader s))).length = flen s := length_txFrame hl
    have hfbuf : Memory.wf Config.frameBufferSize s.fbuf = true := by
      simp only [buffersWf, Bool.and_eq_true] at hw
      exact hw.2
    have hframe : frameToSend (bufferFrame (withFcs (txBody (assignHeader s))) (assignHeader s)) =
        withFcs (txBody (assignHeader s)) := by
      have hread := Memory.readAll_writeAll (bs := withFcs (txBody (assignHeader s))) hfbuf 0
      rwa [hlen] at hread
    have hpos : 0 < (withFcs (txBody (assignHeader s))).length := hlen ▸ Nat.succ_pos _
    exact ⟨_, enc_of_fits hfits, .sending [] hframe (givenAt_firstWrite hpos _) (List.append_nil _).symm⟩

/-- Reset inputs included: a step of a send keeps account of what it has given to the pipe, or it is abandoned without a
response (70_reset_and_hazards.md R160). -/
theorem resume_sendState_or_reset {base b : List Byte} (hs : SendState base b s) (h : resume s = .next t) :
    SendState base b t ∨ t.response = none := by
  refine Or.imp_right And.right
    (carryOn_induct (P := fun u => SendState base b u ∨ (u.ctl = .idle ∧ u.response = none)) ?_ (.inl hs) h)
  intro u v hu hc ha
  have hb : u.ctl ≠ .idle := (canAdvance_iff.mp hc).1
  obtain ⟨-, ⟨-, rfl⟩ | ⟨-, hp⟩⟩ := advance_next ha
  · exact .inr ⟨rfl, rfl⟩
  · exact .inl (((hu.resolve_right fun hr => hb hr.1).envMoves _).of_pass hb hp)

end

theorem SendState.on_the_line {base b : List Byte} {t : State} (h : SendState base b t) (ha : Answered .ok t) :
    t.wire = base ++ b ∧ t.txbuf = [] := by
  obtain ⟨hidle, hok⟩ := ha
  cases h with
  | sending g _ hg => exact absurd (hidle ▸ hg) GivenAt.not_idle
  | sent _ hw ht => exact ⟨hw, ht⟩
  | failed n _ hr => simp [hr] at hok

theorem SendState.prefix_given {base b : List Byte} {t : State} (h : SendState base b t) :
    ∃ n, sentSoFar t = base ++ b.take n := by
  cases h with
  | sending g _ hg hs =>
    obtain ⟨n, rfl⟩ := hg.eq_take
    exact ⟨n, hs⟩
  | sent _ hw ht => exact ⟨b.length, by simp [sentSoFar, hw, ht]⟩
  | failed n _ _ hs => exact ⟨n, hs⟩

/-- Settles O39: of the ways a send can stop, only the flush of the whole frame answers `OK`. -/
theorem sendAnsweredOkMeansOnTheLine : Obligations.SendAnsweredOkMeansOnTheLine := by
  intro s t _ hw h ha
  obtain ⟨r, u, hr, rfl⟩ | ⟨c, u, hl, hr⟩ := exec_next h
  · cases hr with
    | sendTooLong => simp [Answered] at ha
    | illegalOperand _ hwf => cases hwf
  · obtain ⟨b, hb, hs⟩ := hl.sendState hw
    obtain hs | hn := resume_sendState_or_reset hs hr
    · exact ⟨b, hb, hs.on_the_line ha⟩
    · simp [Answered, hn] at ha

/-- Settles O40: at every point that a send passes, it has given the pipe the first bytes of its frame. -/
theorem sendGivesAPrefixOfTheFrame : Obligations.SendGivesAPrefixOfTheFrame := by
  intro s t b _ hw hn hb h
  obtain ⟨r, u, hr, rfl⟩ | ⟨c, u, hl, hr⟩ := exec_next h
  · cases hr with
    | sendTooLong => exact ⟨0, (List.append_nil _).symm⟩
    | illegalOperand _ hwf => cases hwf
  · obtain ⟨b', hb', hs⟩ := hl.sendState hw
    obtain rfl : b' = b := Option.some.inj (hb'.symm.trans hb)
    have ht := resume_induct_of_noResetInput (fun m _ hu => hu.envMoves m) (fun _ _ _ hc hu hp => hu.of_pass hc hp)
      (hl.noResetInput hn) hs hr
    exact ht.prefix_given

end Sys2Proof.Machine
end

section
/-!
SUPPORT. The command word (30_encoding.md R71, R73, R74). A word is its three fields and loses no bit to them; each
format says which fields make a command and which an illegal word (`formatN_decodes` and its two neighbours); so every
word is decoded to the command whose word it is, or is illegal (`decode_cases`).
-/

namespace Sys2Proof

open Machine (IllegalWord opcodesN opcodesA opcodesAI)
open Laws.EncodedOpcode (low_byte)

/-! ### The three fields of a word -/

theorem toNat_packWord (imm : Half) (a8 op : Byte) :
    (packWord imm a8 op).toNat = 0x10000 * imm.toNat + 0x100 * a8.toNat + op.toNat := by
  simp only [packWord, BitVec.toNat_append]
  rw [← Nat.shiftLeft_add_eq_or_of_lt op.isLt, ← Nat.shiftLeft_add_eq_or_of_lt (by omega)]
  simp only [Nat.shiftLeft_eq]
  omega

theorem toNat_opField (w : Word) : (opField w).toNat = w.toNat % 256 := by
  simp [opField]

theorem toNat_a8Field (w : Word) : (a8Field w).toNat = w.toNat / 256 % 256 := by
  simp [a8Field, Nat.shiftRight_eq_div_pow]

theorem toNat_immField (w : Word) : (immField w).toNat = w.toNat / 65536 := by
  simp only [immField, BitVec.extractLsb'_toNat, Nat.shiftRight_eq_div_pow]
  omega

/-- A word has the fields it was packed from, and is the only word that has them (30_encoding.md R71). -/
theorem eq_packWord_iff {w : Word} {imm : Half} {a8 op : Byte} :
    w = packWord imm a8 op ↔ immField w = imm ∧ a8Field w = a8 ∧ opField w = op := by
  simp only [← BitVec.toNat_inj, toNat_packWord, toNat_immField, toNat_a8Field, toNat_opField]
  omega

@[simp] theorem opField_packWord (imm : Half) (a8 op : Byte) : opField (packWord imm a8 op) = op :=
  low_byte imm a8 op

@[simp] theorem a8Field_packWord (imm : Half) (a8 op : Byte) : a8Field (packWord imm a8 op) = a8 :=
  (eq_packWord_iff.mp rfl).2.1

@[simp] theorem immField_packWord (imm : Half) (a8 op : Byte) : immField (packWord imm a8 op) = imm :=
  (eq_packWord_iff.mp rfl).1

/-- R74 with the must-be-zero fields as fields. -/
theorem illegalWord_iff {w : Word} : IllegalWord w ↔
    (opField w).toNat ∉ opcodesN ++ opcodesA ++ opcodesAI ∨
    ((opField w).toNat ∈ opcodesN ∧ ¬(a8Field w = 0 ∧ immField w = 0)) ∨
    ((opField w).toNat ∈ opcodesA ∧ immField w ≠ 0) := by
  have imm_zero : immField w = 0 ↔ w.toNat / 65536 = 0 := by
    rw [← BitVec.toNat_inj, toNat_immField]
    rfl
  have a8_zero : a8Field w = 0 ↔ w.toNat / 256 % 256 = 0 := by
    rw [← BitVec.toNat_inj, toNat_a8Field]
    rfl
  have both_zero : a8Field w = 0 ∧ immField w = 0 ↔ w.toNat / 256 = 0 := by
    rw [imm_zero, a8_zero]
    omega
  rw [both_zero, ne_eq, imm_zero, toNat_opField]

/-! ### The decoder -/

/-- The word `w` is decoded to a command and is that command's word, or it is refused and is illegal. -/
abbrev Decodes (w : Word) (r : Except DecodeError Instr) : Prop :=
  (∃ i, r = .ok i ∧ w = encode i) ∨ ((∃ e, r = .error e) ∧ IllegalWord w)

section
variable {w : Word} {op : Byte}

theorem formatN_decodes {i : Instr} (hop : opField w = op) (hN : op.toNat ∈ opcodesN)
    (hi : encode i = packWord 0 0 op) : Decodes w (formatN w i) := by
  unfold formatN
  split_ifs with hz
  · exact .inl ⟨i, rfl, hi ▸ eq_packWord_iff.mpr ⟨hz.2, hz.1, hop⟩⟩
  · exact .inr ⟨⟨_, rfl⟩, illegalWord_iff.mpr (.inr (.inl ⟨hop ▸ hN, hz⟩))⟩

theorem formatA_decodes {i : Byte → Instr} (hop : opField w = op) (hA : op.toNat ∈ opcodesA)
    (hi : ∀ a, encode (i a) = packWord 0 a op) : Decodes w (formatA w i) := by
  unfold formatA
  split_ifs with hz
  · exact .inl ⟨i (a8Field w), rfl, hi _ ▸ eq_packWord_iff.mpr ⟨hz, rfl, hop⟩⟩
  · exact .inr ⟨⟨_, rfl⟩, illegalWord_iff.mpr (.inr (.inr ⟨hop ▸ hA, hz⟩))⟩

theorem formatAI_decodes {i : Byte → Half → Instr} (hop : opField w = op)
    (hi : ∀ a v, encode (i a v) = packWord v a op) : Decodes w (formatAI w i) :=
  .inl ⟨i (a8Field w) (immField w), rfl, hi _ _ ▸ eq_packWord_iff.mpr ⟨rfl, rfl, hop⟩⟩

end

/-- Every word is decoded to the command whose word it is, or is illegal (30_encoding.md R74). -/
theorem decode_cases (w : Word) : Decodes w (decode w) := by
  have op_eq {n : Nat} (h : (opField w).toNat = n) : opField w = BitVec.ofNat 8 n := by
    rw [← h, BitVec.ofNat_toNat, BitVec.setWidth_eq]
  unfold decode
  split
  case h_1 h | h_4 h | h_6 h | h_7 h | h_8 h | h_14 h | h_15 h | h_16 h | h_17 h | h_18 h =>
    exact formatN_decodes (op_eq h) (by decide) rfl
  case h_2 h | h_5 h | h_9 h | h_11 h | h_13 h => exact formatA_decodes (op_eq h) (by decide) fun _ => rfl
  case h_3 h | h_10 h | h_12 h => exact formatAI_decodes (op_eq h) fun _ _ => rfl
  case h_19 =>
    refine .inr ⟨⟨_, rfl⟩, illegalWord_iff.mpr (.inl ?_)⟩
    simp only [opcodesN, opcodesA, opcodesAI, List.mem_append, List.mem_cons, List.not_mem_nil]
    tauto

theorem decode_encode (i : Instr) : decode (encode i) = .ok i := by
  cases i with
  | sysReset | crcInit | crcFin | frmEnc | frmDec | lnkOpen | lnkClose | lnkSend | lnkPoll | lnkSync =>
    simp [decode, encode, formatN]
  | regRd | crcUpd | frmErrc | rxpRd | fbRd => simp [decode, encode, formatA]
  | regWr | txpWr | fbWr => simp [decode, encode, formatAI]

theorem not_illegalWord_encode (i : Instr) : ¬IllegalWord (encode i) := by
  rw [illegalWord_iff]
  cases i with
  | sysReset | crcInit | crcFin | frmEnc | frmDec | lnkOpen | lnkClose | lnkSend | lnkPoll | lnkSync =>
    simp [encode, opcodesN, opcodesA]
  | regRd | crcUpd | frmErrc | rxpRd | fbRd => simp [encode, opcodesN, opcodesA]
  | regWr | txpWr | fbWr => simp [encode, opcodesN, opcodesA, opcodesAI]

/-- A word means at most one command, the one whose word it is. -/
theorem decode_eq_ok_iff {w : Word} {i : Instr} : decode w = .ok i ↔ w = encode i := by
  constructor
  · intro h
    obtain ⟨j, hj, hw⟩ | ⟨⟨e, he⟩, -⟩ := decode_cases w
    · obtain rfl : j = i := Except.ok.inj (hj.symm.trans h)
      exact hw
    · cases he.symm.trans h
  · rintro rfl
    exact decode_encode i

theorem decode_eq_error_iff {w : Word} : (∃ e, decode w = .error e) ↔ IllegalWord w := by
  obtain ⟨i, hi, rfl⟩ | ⟨he, hw⟩ := decode_cases w
  · simp [hi, not_illegalWord_encode]
  · exact iff_of_true he hw

/-! ### The statements on the word -/

/-- Settles O2: `decode_cases` says that a decoded word is the command's, `decode_encode` that it is decoded. -/
theorem decodeInvertsEncode : Obligations.DecodeInvertsEncode := fun _ _ => decode_eq_ok_iff

/-- Settles O3: each sample is the word of its command. -/
theorem sampleWordsDecode : Obligations.SampleWordsDecode := by
  refine ⟨?_, ?_, ?_, ?_, ?_, ?_, ?_⟩ <;> exact decode_eq_ok_iff.mpr rfl

/-- Settles O1: the word's number is that of its fields. -/
theorem commandWordsFollowTheMap : Obligations.CommandWordsFollowTheMap := by
  simp [Obligations.CommandWordsFollowTheMap, encode, toNat_packWord]

end Sys2Proof
end

section
/-!
SUPPORT. What the idle block does with a presented word (30_encoding.md R70, R74), when a command answers
`ILLEGAL_OPERAND` (R75), and the fields of a received frame as numbers (R62).
-/

namespace Sys2Proof.Machine

/-! ### A presented word -/

theorem present_of_decode {w : Word} {i : Instr} (h : decode w = .ok i) (s : State) : present w s = exec i s := by
  simp [present, h]

theorem present_of_illegalWord {w : Word} (h : IllegalWord w) (s : State) :
    present w s = .next (respond .illegalCommand 0 s) := by
  obtain ⟨e, he⟩ := decode_eq_error_iff.mpr h
  simp [present, he]

/-- Settles O5: the idle block takes the word, and a decoded word is carried out. -/
theorem stepRunsTheDecodedCommand : Obligations.StepRunsTheDecodedCommand := by
  intro s w rest i hc hs hd
  rw [step_of_word hc hs, present_of_decode hd]

/-- A response to the idle block changes nothing but the response. -/
theorem respond_of_idle {s : State} (h : s.ctl = .idle) (rc : ResultCode) (v : Word) :
    respond rc v s = { s with response := some ⟨rc, v⟩ } := by
  rw [respond, ← h]

/-- Settles O4: a word that is no command's is the one that `decode` refuses. -/
theorem illegalWordChangesNothing : Obligations.IllegalWordChangesNothing := by
  refine ⟨fun w => ⟨?_, ?_⟩, fun s w rest hc hs hw => ?_⟩
  · rintro hw i rfl
    exact not_illegalWord_encode i hw
  · intro hw
    obtain ⟨i, -, hi⟩ | ⟨-, hi⟩ := decode_cases w
    · exact absurd hi.symm (hw i)
    · exact hi
  · rw [step_of_word hc hs, present_of_illegalWord hw, respond_of_idle (s := { s with script := rest }) hc]

/-! ### `ILLEGAL_OPERAND` -/

theorem regValueRefused_eq_false {r : Reg} {v : Half} :
    regValueRefused r v = false ↔ r ≠ .plen ∨ v.toNat ≤ Config.maxPlen := by
  rw [regValueRefused, Bool.and_eq_false_iff, beq_eq_false_iff_ne, blt_eq_false]

section
variable {s u t : State} {i : Instr} {r : Response} {c : Control}

/-- A command that answers at once answers `ILLEGAL_OPERAND`, with nothing written, exactly if its operands are out of
range (30_encoding.md R75). -/
theorem Answers.wellFormed_or_refused (h : Answers s i r u) :
    (WellFormed i = true ∧ r.rc ≠ .illegalOperand) ∨ (WellFormed i = false ∧ r = ⟨.illegalOperand, 0⟩ ∧ u = s) := by
  cases h with
  | illegalOperand i hw => exact .inr ⟨hw, rfl, rfl⟩
  | regRd num q hq => exact .inl ⟨by simp [WellFormed, regOf_eq_some.mpr hq], by simp⟩
  | regWr num v q hq ho hv =>
    refine .inl ⟨?_, by simp⟩
    simpa [WellFormed, regWrWellFormed, regOf_eq_some.mpr hq, ho] using regValueRefused_eq_false.mp hv
  | txpWr _ _ hi | rxpRd _ hi | fbWr _ _ hi | fbRd _ hi => exact .inl ⟨by simpa [WellFormed] using hi, by simp⟩
  | _ => exact .inl ⟨rfl, by simp⟩

/-- A command with interleaving points has no operands that could be out of range. -/
theorem Launches.wellFormed (h : Launches s i c u) : WellFormed i = true := by
  cases h <;> rfl

/-- The response on the port, if there is one, is not `ILLEGAL_OPERAND`. -/
abbrev NotRefused (s : State) : Prop := (s.response.map fun r => r.rc) ≠ some .illegalOperand

theorem Pass.notRefused {f : Option Nat} (h : Pass f u t) (hu : NotRefused u) : NotRefused t := by
  cases h with
  | foreignFrame _ _ _ _ _ _ _ hv | dropsWaits _ _ _ _ _ _ hv => simpa [NotRefused, hv] using hu
  | idle | writes | byteWrites | byteFlushes | nextByte | lastByte | available | sentSync | waits | pollsAgain =>
    exact hu
  | _ => simp [NotRefused]

theorem resume_notRefused (hs : NotRefused s) (h : resume s = .next t) : NotRefused t := by
  refine carryOn_induct (P := NotRefused) (fun u v hu _ ha => ?_) hs h
  obtain ⟨-, ⟨-, rfl⟩ | ⟨-, hp⟩⟩ := advance_next ha
  · simp [NotRefused]
  · exact hp.notRefused hu

end

/-- Settles O12: the commands that answer at once do so by `Answers.wellFormed_or_refused`; those that are carried on
are well formed, and no pass gives this code. -/
theorem illegalOperandExactlyWhenOutOfRange : Obligations.IllegalOperandExactlyWhenOutOfRange := by
  refine fun i s => ⟨fun hw => ?_, fun hw t h ha => ?_⟩
  · have not_launched {c u} (hl : Launches s i c u) : False := by simp [hl.wellFormed] at hw
    obtain ⟨t, h⟩ := (exec_answers_or_launches s i).resolve_right fun ⟨_, _, hl, _⟩ => not_launched hl
    obtain ⟨r, u, hr, rfl⟩ | ⟨c, u, hl, -⟩ := exec_next h
    · obtain ⟨hw', -⟩ | ⟨-, rfl, rfl⟩ := hr.wellFormed_or_refused
      · simp [hw'] at hw
      · exact h
    · exact (not_launched hl).elim
  · obtain ⟨r, u, hr, rfl⟩ | ⟨c, u, hl, hr⟩ := exec_next h
    · obtain ⟨-, hne⟩ | ⟨hw', -⟩ := hr.wellFormed_or_refused
      · exact hne (Option.some.inj ha.2)
      · simp [hw'] at hw
    · exact resume_notRefused (s := accept c u) (by simp [NotRefused]) hr ha.2

/-! ### The fields of a received frame -/

theorem sourceOf_eq (b : List Byte) : sourceOf b = BitVec.ofNat 4 ((byteAt b 2).toNat % 16) := by
  apply BitVec.eq_of_toNat_eq
  simp [sourceOf]

theorem destOf_eq (b : List Byte) : destOf b = BitVec.ofNat 4 ((byteAt b 2).toNat / 16) := by
  apply BitVec.eq_of_toNat_eq
  simp [destOf, Nat.shiftRight_eq_div_pow]

/-- The checksum comes low byte first (30_encoding.md R62). -/
theorem sentFcs_eq (b : List Byte) (plen : Nat) :
    sentFcs b plen = BitVec.ofNat 16 ((byteAt b (plen + 4)).toNat + 256 * (byteAt b (plen + 5)).toNat) := by
  apply BitVec.eq_of_toNat_eq
  have hlo := (byteAt b (plen + 4)).isLt
  have hhi := (byteAt b (plen + 5)).isLt
  have small : (byteAt b (plen + 5)).toNat <<< 8 < 2 ^ 16 := by
    rw [Nat.shiftLeft_eq]
    omega
  rw [sentFcs, BitVec.toNat_or, BitVec.toNat_shiftLeft, BitVec.toNat_setWidth_of_le (by decide),
    BitVec.toNat_setWidth_of_le (by decide), Nat.mod_eq_of_lt small, Nat.or_comm,
    ← Nat.shiftLeft_add_eq_or_of_lt hlo, BitVec.toNat_ofNat, Nat.shiftLeft_eq]
  omega

theorem frameLen_eq (plen : Nat) : frameLen plen = plen + 6 := by
  rw [frameLen, headerLen, fcsLen]
  omega

/-- Settles O23: the two tests of `dec` in their order, and each field as a number. -/
theorem decTestsLengthThenChecksum : Obligations.DecTestsLengthThenChecksum := by
  intro b plen
  have covered : coveredBytes b plen = b.take (plen + 4) := by rw [coveredBytes, headerLen, Nat.add_comm]
  simp only [dec, fcsMatches, covered, ← sentFcs_eq, frameLen_eq, beq_iff_eq]
  refine ⟨fun hl => if_pos hl, fun hl hf => ?_, fun hl hf => ?_⟩
  · rw [if_neg (not_not.mpr hl), if_neg hf]
  · rw [if_neg (not_not.mpr hl), if_pos hf, unpackFrame, sourceOf_eq, destOf_eq]
    rfl

end Sys2Proof.Machine
end

section
/-!
SUPPORT. The checksum generator (40_crc.md R80, R81) as a linear shift register. A round is linear and injective; what
is exclusive-ored into the register before `n` rounds enters bit by bit, one bit a round (`iterate_crcRound_xor_bits`).
So the generator takes the bits of its bytes one after the other (`crcFrom_eq_crcBits`), and two registers that were
equal stay so on exactly the same bits.
-/

namespace Sys2Proof.Machine

/-! ### One round -/

theorem crcRound_eq_xor (c : Half) : crcRound c = (c >>> 1) ^^^ if c.getLsbD 0 then crcPoly else 0 := by
  unfold crcRound
  split <;> simp

theorem crcRound_xor (c x : Half) : crcRound (c ^^^ x) = crcRound c ^^^ crcRound x := by
  have htap : (if (c ^^^ x).getLsbD 0 then crcPoly else 0) =
      (if c.getLsbD 0 then crcPoly else 0) ^^^ if x.getLsbD 0 then crcPoly else 0 := by
    rw [BitVec.getLsbD_xor]
    cases c.getLsbD 0 <;> cases x.getLsbD 0 <;> simp
  rw [crcRound_eq_xor, crcRound_eq_xor c, crcRound_eq_xor x, htap, BitVec.ushiftRight_xor_distrib]
  ac_rfl

/-- `CRC_POLY_R` has its top bit set: the top bit of a round's result tells which branch was taken. -/
theorem getLsbD_fifteen_crcRound (c : Half) : (crcRound c).getLsbD 15 = c.getLsbD 0 := by
  rw [crcRound_eq_xor]
  cases c.getLsbD 0 <;> simp [crcPoly]

theorem crcRound_injective : Function.Injective crcRound := by
  intro a b h
  have hlow : a.getLsbD 0 = b.getLsbD 0 := by rw [← getLsbD_fifteen_crcRound, h, getLsbD_fifteen_crcRound]
  have hhigh : a >>> 1 = b >>> 1 := by
    rw [crcRound_eq_xor, crcRound_eq_xor, hlow] at h
    exact (BitVec.xor_left_inj _).mp h
  refine BitVec.eq_of_getLsbD_eq fun i _ => ?_
  cases i with
  | zero => exact hlow
  | succ i => simpa [Nat.add_comm] using congrArg (fun x : Half => x.getLsbD i) hhigh

/-! ### Several rounds -/

theorem crcStep_eq_iterate (c : Half) (d : Byte) : crcStep c d = crcRound^[8] (c ^^^ d.setWidth 16) := rfl

theorem iterate_crcRound_xor (n : Nat) (c x : Half) :
    crcRound^[n] (c ^^^ x) = crcRound^[n] c ^^^ crcRound^[n] x := by
  induction n with
  | zero => rfl
  | succ n ih => simp only [Function.iterate_succ_apply', ih, crcRound_xor]

/-- As long as the bits shifted out are 0, a round is a shift. -/
theorem iterate_crcRound_of_low_zero {n : Nat} {x : Half} (h : ∀ i < n, x.getLsbD i = false) :
    crcRound^[n] x = x >>> n := by
  induction n with
  | zero => simp
  | succ n ih =>
    have hn : (x >>> n).getLsbD 0 = false := by simpa using h n n.lt_succ_self
    rw [Function.iterate_succ_apply', ih fun i hi => h i (by omega), crcRound_eq_xor, hn, BitVec.shiftRight_add]
    simp

/-! ### The generator, a bit at a time -/

/-- One bit taken by the generator (40_crc.md R87, the bit-serial form). -/
def crcBit (c : Half) (b : Bool) : Half :=
  if (c.getLsbD 0 ^^ b) = true then (c >>> 1) ^^^ crcPoly else c >>> 1

/-- The register after the bits of `bs`, from `c` on. -/
def crcBits (c : Half) (bs : List Bool) : Half := bs.foldl crcBit c

theorem crcBits_append (c : Half) (bs bs' : List Bool) : crcBits c (bs ++ bs') = crcBits (crcBits c bs) bs' :=
  List.foldl_append

/-- Bit 0 of what is exclusive-ored into the register decides the round; the rest of it is shifted. -/
theorem crcRound_xor_bit (c x : Half) : crcRound (c ^^^ x) = crcBit c (x.getLsbD 0) ^^^ (x >>> 1) := by
  unfold crcRound crcBit
  rw [BitVec.getLsbD_xor, BitVec.ushiftRight_xor_distrib]
  split
  · ac_rfl
  · rfl

/-- What is exclusive-ored into the register enters it bit by bit, one bit a round. -/
theorem iterate_crcRound_xor_bits (n : Nat) (c x : Half) :
    crcRound^[n] (c ^^^ x) = crcBits c ((List.range n).map x.getLsbD) ^^^ (x >>> n) := by
  induction n with
  | zero => simp [crcBits]
  | succ n ih =>
    rw [Function.iterate_succ_apply', ih, crcRound_xor_bit, List.range_succ, List.map_append, crcBits_append,
      BitVec.shiftRight_add, BitVec.getLsbD_ushiftRight]
    rfl

/-- Bit 0 of the register and the bit taken enter a round together. -/
theorem crcBit_eq_crcRound (c : Half) (b : Bool) : crcBit c b = crcRound (c ^^^ (BitVec.ofBool b).setWidth 16) := by
  rw [crcRound_xor_bit]
  cases b <;> simp

theorem crcBit_injective (b : Bool) : Function.Injective (crcBit · b) := by
  intro c c' h
  simp only [crcBit_eq_crcRound] at h
  exact (BitVec.xor_left_inj _).mp (crcRound_injective h)

theorem crcBits_injective (bs : List Bool) : Function.Injective (crcBits · bs) := by
  induction bs with
  | nil => exact Function.injective_id
  | cons b bs ih => exact ih.comp (crcBit_injective b)

/-- At most sixteen bits are the low bits of a word that has no others. -/
theorem exists_half_of_bits {bs : List Bool} (h : bs.length ≤ 16) :
    ∃ x : Half, (List.range bs.length).map x.getLsbD = bs ∧ x >>> bs.length = 0 := by
  refine ⟨(BitVec.ofBoolListLE bs).setWidth 16, ?_, ?_⟩
  · refine List.ext_getElem (by simp) fun i hi hi' => ?_
    have : i < 16 := by omega
    rw [List.getElem_map, List.getElem_range, BitVec.getLsbD_setWidth, BitVec.getLsbD_ofBoolListLE]
    simp [this, hi']
  · refine BitVec.eq_of_getLsbD_eq fun i _ => ?_
    simp

/-- The register distinguishes the sequences of one length of at most sixteen bits. -/
theorem crcBits_inj_of_short {c : Half} {bs bs' : List Bool} (hlen : bs.length = bs'.length) (hshort : bs.length ≤ 16)
    (h : crcBits c bs = crcBits c bs') : bs = bs' := by
  obtain ⟨x, hx, hx0⟩ := exists_half_of_bits hshort
  obtain ⟨y, hy, hy0⟩ := exists_half_of_bits (hlen ▸ hshort)
  rw [← hlen] at hy hy0
  have hxy : crcRound^[bs.length] (c ^^^ x) = crcRound^[bs.length] (c ^^^ y) := by
    rw [iterate_crcRound_xor_bits, iterate_crcRound_xor_bits, hx, hy, hx0, hy0, h]
  obtain rfl : x = y := (BitVec.xor_right_inj _).mp (crcRound_injective.iterate _ hxy)
  exact hx.symm.trans hy

/-- A change confined to sixteen consecutive bits changes the register: the bits before it leave the registers equal,
it tells them apart, and the bits after it keep them apart. -/
theorem eq_of_crcBits_eq_of_burst {c : Half} {bs bs' : List Bool} {p : Nat} (hlen : bs.length = bs'.length)
    (hout : ∀ j, (j < p ∨ p + 16 ≤ j) → bs[j]? = bs'[j]?) (h : crcBits c bs = crcBits c bs') : bs = bs' := by
  have split_burst (l : List Bool) : l = l.take p ++ ((l.drop p).take 16 ++ l.drop (p + 16)) := by
    rw [← List.drop_drop, List.take_append_drop, List.take_append_drop]
  have hbefore : bs.take p = bs'.take p := by
    refine List.ext_getElem? fun j => ?_
    by_cases hj : j < p
    · rw [List.getElem?_take_of_lt hj, List.getElem?_take_of_lt hj, hout j (.inl hj)]
    · simp [hj]
  have hafter : bs.drop (p + 16) = bs'.drop (p + 16) := by
    refine List.ext_getElem? fun j => ?_
    rw [List.getElem?_drop, List.getElem?_drop, hout _ (.inr (Nat.le_add_right _ _))]
  have hburst : (bs.drop p).take 16 = (bs'.drop p).take 16 := by
    rw [split_burst bs, split_burst bs', hbefore, hafter] at h
    simp only [crcBits_append] at h
    exact crcBits_inj_of_short (by simp [hlen]) (List.length_take_le _ _) (crcBits_injective _ h)
  rw [split_burst bs, split_burst bs', hbefore, hburst, hafter]

/-! ### Bytes as bits -/

/-- The bits of a byte in the order the generator takes them. -/
abbrev byteBits (d : Byte) : List Bool := (List.range 8).map d.getLsbD

theorem bitsOf_cons (d : Byte) (s : List Byte) : bitsOf (d :: s) = byteBits d ++ bitsOf s := rfl

@[simp] theorem length_bitsOf (s : List Byte) : (bitsOf s).length = 8 * s.length := by
  induction s with
  | nil => rfl
  | cons d s ih =>
    simp [bitsOf_cons, ih]
    omega

theorem byteBits_injective : Function.Injective byteBits := fun _ _ h =>
  BitVec.eq_of_getLsbD_eq fun i hi => List.map_inj_left.mp h i (List.mem_range.mpr hi)

theorem bitsOf_injective : Function.Injective bitsOf := by
  intro s t h
  induction s generalizing t with
  | nil => exact (List.length_eq_zero_iff.mp (by simpa using congrArg List.length h.symm)).symm
  | cons d s ih =>
    cases t with
    | nil => simp [bitsOf] at h
    | cons e t =>
      obtain ⟨hd, hs⟩ := List.append_inj h (by simp)
      rw [byteBits_injective hd, ih hs]

/-- No bit of a byte stands in the high half of the register. -/
theorem setWidth_ushiftRight_eight (d : Byte) : d.setWidth 16 >>> 8 = (0#16 : Half) :=
  BitVec.eq_of_getLsbD_eq fun i _ => by simp

theorem crcStep_eq_crcBits (c : Half) (d : Byte) : crcStep c d = crcBits c (byteBits d) := by
  have hbits : (List.range 8).map (d.setWidth 16).getLsbD = byteBits d := by
    refine List.map_congr_left fun k hk => ?_
    have : k < 16 := by
      have := List.mem_range.mp hk
      omega
    simp [this]
  rw [crcStep_eq_iterate, iterate_crcRound_xor_bits, hbits, setWidth_ushiftRight_eight, BitVec.xor_zero]

/-- The generator takes the bits of its bytes one after the other, each byte's bit 0 first. -/
theorem crcFrom_eq_crcBits (c : Half) (s : List Byte) : crcFrom c s = crcBits c (bitsOf s) := by
  induction s generalizing c with
  | nil => rfl
  | cons d s ih => rw [bitsOf_cons, crcBits_append, ← crcStep_eq_crcBits, ← ih, crcFrom, List.foldl_cons, crcFrom]

/-! ### Bytes -/

theorem crcFrom_append (c : Half) (s t : List Byte) : crcFrom c (s ++ t) = crcFrom (crcFrom c s) t :=
  List.foldl_append

theorem crcStep_xor (c₁ c₂ : Half) (d₁ d₂ : Byte) :
    crcStep (c₁ ^^^ c₂) (d₁ ^^^ d₂) = crcStep c₁ d₁ ^^^ crcStep c₂ d₂ := by
  have hmix : c₁ ^^^ c₂ ^^^ (d₁ ^^^ d₂).setWidth 16 = (c₁ ^^^ d₁.setWidth 16) ^^^ (c₂ ^^^ d₂.setWidth 16) := by
    rw [BitVec.setWidth_xor]
    ac_rfl
  rw [crcStep_eq_iterate, hmix, iterate_crcRound_xor]
  rfl

theorem crcFrom_xor {c₁ c₂ : Half} {s t : List Byte} (h : s.length = t.length) :
    crcFrom (c₁ ^^^ c₂) (List.zipWith (fun x y => x ^^^ y) s t) = crcFrom c₁ s ^^^ crcFrom c₂ t := by
  induction s generalizing c₁ c₂ t with
  | nil =>
    obtain rfl : t = [] := List.length_eq_zero_iff.mp h.symm
    rfl
  | cons d s ih =>
    cases t with
    | nil => cases h
    | cons e t =>
      simp only [List.zipWith_cons_cons, crcFrom, List.foldl_cons, crcStep_xor]
      exact ih (Nat.succ.inj h)

/-- The low byte of the register and the byte taken select the table's entry, and the high byte is shifted. -/
theorem crcStep_eq_table (c : Half) (d : Byte) :
    crcStep c d = (c >>> 8) ^^^ crcStep 0 ((c ^^^ d.setWidth 16).setWidth 8) := by
  generalize hv : c ^^^ d.setWidth 16 = v
  have hhigh : crcRound^[8] (v ^^^ (v.setWidth 8).setWidth 16) = c >>> 8 := by
    rw [iterate_crcRound_of_low_zero fun i hi => by simp [hi, Nat.lt_trans hi], ← hv]
    simp only [BitVec.ushiftRight_xor_distrib, setWidth_ushiftRight_eight, BitVec.xor_zero]
  calc crcStep c d
    _ = crcRound^[8] (v ^^^ (v.setWidth 8).setWidth 16 ^^^ (v.setWidth 8).setWidth 16) := by
      rw [crcStep_eq_iterate, hv, BitVec.xor_assoc, BitVec.xor_self, BitVec.xor_zero]
    _ = (c >>> 8) ^^^ crcStep 0 (v.setWidth 8) := by
      rw [iterate_crcRound_xor, hhigh, crcStep_eq_iterate]
      simp

/-! ### The statements on the generator -/

/-- Settles O14: the bit-serial form is `crcStep_eq_crcBits`, the table form `crcStep_eq_table`, the linearity
`crcStep_xor` and `crcFrom_xor`. -/
theorem generatorFormsAgree : Obligations.GeneratorFormsAgree := by
  refine ⟨fun c d => ?_, crcStep_eq_table, by decide, crcStep_xor, fun s t h => ?_⟩
  · rw [crcStep_eq_crcBits, crcBits, List.foldl_map]
    rfl
  · have hseed : crc16 s ^^^ crc16 t = crcAcc s ^^^ crcAcc t := by
      rw [crc16, crc16, BitVec.xor_comm (crcAcc t), BitVec.xor_assoc, ← BitVec.xor_assoc crcXorOut, BitVec.xor_self,
        BitVec.zero_xor]
    rw [hseed, crcAcc, crcAcc, ← crcFrom_xor h, BitVec.xor_self]
    rfl

/-- Settles O15: the step is an exclusive-or with the byte and eight rounds, each of them injective. -/
theorem crcStepIsABijection : Obligations.CrcStepIsABijection := by
  refine fun d => Finite.injective_iff_bijective.mp fun c c' h => ?_
  simp only [crcStep_eq_iterate] at h
  exact (BitVec.xor_left_inj _).mp (crcRound_injective.iterate 8 h)

/-- Settles O13: the rounds of the model are those of R80, and bytes are taken one after the other. -/
theorem checksumFollowsTheAlgorithm : Obligations.ChecksumFollowsTheAlgorithm :=
  ⟨crcStep_eq_iterate, rfl, rfl, fun s d => crcFrom_append crcSeed s [d], fun _ => rfl⟩

/-- Settles O16: the algorithm carried out. -/
theorem checksumCheckValues : Obligations.ChecksumCheckValues := by
  unfold Obligations.ChecksumCheckValues
  decide +kernel

/-! ### The commands of the generator -/

/-- Settles O19: the word of `CRC.INIT`, and its one register written. -/
theorem crcInitSeedsTheGenerator : Obligations.CrcInitSeedsTheGenerator :=
  ⟨decode_eq_ok_iff.mpr rfl, fun _ => rfl⟩

/-- The word of `CRC.UPD d` by its number (40_crc.md R84). -/
theorem encode_crcUpd (d : Byte) : BitVec.ofNat 32 (0x100 * d.toNat + 0x11) = encode (.crcUpd d) := by
  have hd := d.isLt
  apply BitVec.eq_of_toNat_eq
  rw [encode, toNat_packWord, BitVec.toNat_ofNat, Nat.mod_eq_of_lt (by omega)]
  simp

/-- Settles O20: the word of `CRC.UPD`, its one register written, and the examples carried out. -/
theorem crcUpdAdvancesTheGenerator : Obligations.CrcUpdAdvancesTheGenerator :=
  ⟨fun d => decode_eq_ok_iff.mpr (encode_crcUpd d), fun _ _ => rfl, by decide, by decide, by decide⟩

/-- Settles O21: the word of `CRC.FIN`, and no register written. -/
theorem crcFinAnswersTheChecksum : Obligations.CrcFinAnswersTheChecksum :=
  ⟨decode_eq_ok_iff.mpr rfl, fun _ => rfl⟩

end Sys2Proof.Machine
end

section
/-!
SUPPORT. The checksum of a frame (41_frame_codec.md R92). The two checksum bytes are the checksum's sixteen bits, so
taking them is sixteen rounds on the exclusive-or of register and checksum (`crcFrom_fcsBytes`); from this the residue of
a valid frame, and that a burst of sixteen bits does not leave it.
-/

namespace Sys2Proof.Machine

/-! ### The residue -/

/-- The bits of the checksum, low byte first, are those of the word (20_memory.md R54). -/
theorem bitsOf_fcsBytes (h : Half) : bitsOf (fcsBytes h) = (List.range 16).map h.getLsbD := by
  simp [bitsOf, fcsBytes, List.range_succ]

theorem crcFrom_fcsBytes (c h : Half) : crcFrom c (fcsBytes h) = crcRound^[16] (c ^^^ h) := by
  rw [crcFrom_eq_crcBits, bitsOf_fcsBytes, iterate_crcRound_xor_bits, BitVec.ushiftRight_eq_zero (Nat.le_refl 16),
    BitVec.xor_zero]

/-- What the generator leaves on a valid frame (40_crc.md R88 (a)). -/
def crcResidue : Half := 0xB001

theorem iterate_crcRound_crcXorOut : crcRound^[16] crcXorOut = crcResidue := by decide +kernel

theorem xor_eq_crcXorOut_iff {c h : Half} : c ^^^ h = crcXorOut ↔ c ^^^ crcXorOut = h := by
  constructor
  · intro hx
    rw [← hx, ← BitVec.xor_assoc, BitVec.xor_self, BitVec.zero_xor]
  · rintro rfl
    rw [← BitVec.xor_assoc, BitVec.xor_self, BitVec.zero_xor]

/-- A byte sequence and two checksum bytes leave the residue exactly if they are its checksum. -/
theorem crcAcc_append_fcsBytes_iff {s : List Byte} {h : Half} :
    crcAcc (s ++ fcsBytes h) = crcResidue ↔ crc16 s = h := by
  rw [crcAcc, crcFrom_append, crcFrom_fcsBytes, ← iterate_crcRound_crcXorOut,
    (crcRound_injective.iterate 16).eq_iff, xor_eq_crcXorOut_iff]
  rfl

theorem fcsBytes_sentFcs (b : List Byte) (plen : Nat) :
    fcsBytes (sentFcs b plen) = [byteAt b (plen + 4), byteAt b (plen + 5)] := by
  have hlo (x y : Byte) : (x.setWidth 16 ||| (y.setWidth 16 <<< 8)).extractLsb' 0 8 = x :=
    BitVec.eq_of_getLsbD_eq fun i hi => by simp [hi, Nat.lt_trans hi]
  have hhi (x y : Byte) : (x.setWidth 16 ||| (y.setWidth 16 <<< 8)).extractLsb' 8 8 = y :=
    BitVec.eq_of_getLsbD_eq fun i hi => by simp [hi, Nat.add_lt_add_left hi 8]
  rw [sentFcs, fcsBytes, hlo, hhi]

/-- A frame is the bytes its checksum covers and the checksum as sent (30_encoding.md R60). -/
theorem coveredBytes_append_sentFcs {b : List Byte} {plen : Nat} (h : b.length = plen + 6) :
    coveredBytes b plen ++ fcsBytes (sentFcs b plen) = b := by
  have hlast : b.drop (plen + 4) = [byteAt b (plen + 4), byteAt b (plen + 5)] := by
    have h4 : plen + 4 < b.length := by omega
    have h5 : plen + 5 < b.length := by omega
    rw [List.drop_eq_getElem_cons h4, List.drop_eq_getElem_cons h5, List.drop_eq_nil_of_le h.le, byteAt, byteAt,
      List.getD_eq_getElem _ _ h4, List.getD_eq_getElem _ _ h5]
  rw [fcsBytes_sentFcs, ← hlast, coveredBytes, headerLen, Nat.add_comm, List.take_append_drop]

theorem fcsMatches_iff_residue {b : List Byte} {plen : Nat} (h : b.length = plen + 6) :
    fcsMatches b plen = true ↔ crcAcc b = crcResidue := by
  rw [fcsMatches, beq_iff_eq, ← crcAcc_append_fcsBytes_iff, coveredBytes_append_sentFcs h]

theorem dec_of_not_fcsMatches {b : List Byte} {plen : Nat} (hlen : b.length = plen + 6)
    (hf : ¬fcsMatches b plen = true) : dec b plen = .error .fcsMismatch := by
  rw [dec, if_neg (not_not.mpr (hlen.trans (frameLen_eq plen).symm)), if_neg hf]

/-! ### The statements on frames -/

/-- Settles O17: the checksum bytes cancel the register to `CRC_XOROUT`, from which sixteen rounds lead to the residue,
and from no other value. -/
theorem validFramesLeaveTheResidue : Obligations.ValidFramesLeaveTheResidue := by
  refine ⟨fun s => ?_, fun _ _ => fcsMatches_iff_residue⟩
  have hacc : crcAcc (s ++ fcsBytes (crc16 s)) = 0xB001 := crcAcc_append_fcsBytes_iff.mpr rfl
  exact ⟨hacc, by rw [crc16, hacc]; rfl⟩

/-- Settles O18: two frames that leave the residue cannot differ in a burst of sixteen bits. -/
theorem sixteenBitBurstIsCaught : Obligations.SixteenBitBurstIsCaught := by
  intro b b' plen p hlen hlen' hne hout hvalid
  refine dec_of_not_fcsMatches hlen' fun hvalid' => hne (bitsOf_injective ?_)
  have hacc : crcAcc b = crcAcc b' :=
    ((fcsMatches_iff_residue hlen).mp hvalid).trans ((fcsMatches_iff_residue hlen').mp hvalid').symm
  rw [crcAcc, crcAcc, crcFrom_eq_crcBits, crcFrom_eq_crcBits] at hacc
  exact eq_of_crcBits_eq_of_burst (by simp [hlen, hlen']) hout hacc

end Sys2Proof.Machine
end

section
/-!
SUPPORT. The frame (30_encoding.md R60 to R62) and its two conversions (41_frame_codec.md R91, R92). What `enc` makes of
fields that fit is a body with its checksum, so `dec` takes it back (`dec_withFcs`), and each field stands in its place
(`unpackFrame_withFcs`). What `dec` accepts is its own fields but for the reserved byte (`frameBody_unpackFrame`). A
single altered byte cannot leave the register as it was (`eq_byteAt_of_crcAcc_set`).
-/

namespace Sys2Proof.Machine

/-! ### Bytes in their places -/

theorem byteAt_append_left {a b : List Byte} {i : Nat} (h : i < a.length) : byteAt (a ++ b) i = byteAt a i :=
  List.getD_append a b 0 i h

theorem byteAt_of_length_le {b : List Byte} {i : Nat} (h : b.length ≤ i) : byteAt b i = 0 :=
  List.getD_eq_default b 0 h

/-- A payload and its padding read alike: the pad byte is what is read beyond a byte sequence. -/
theorem byteAt_padPayload (p : List Byte) (plen i : Nat) : byteAt (padPayload p plen) i = byteAt p i := by
  obtain h | h := Nat.lt_or_ge i p.length
  · exact byteAt_append_left h
  · rw [byteAt_of_length_le h, byteAt, padPayload, List.getD_append_right p _ 0 i h]
    exact List.getElem?_getD_replicate_default_eq _ _ _

theorem coveredBytes_eq (b : List Byte) (plen : Nat) : coveredBytes b plen = b.take (plen + 4) := by
  rw [coveredBytes, headerLen, Nat.add_comm]

/-! ### The address byte -/

/-- The source address is the low nibble, the destination address the high one (30_encoding.md R61). -/
theorem toNat_addressByte (sa da : Nibble) : (addressByte sa da).toNat = sa.toNat + 16 * da.toNat := by
  have hsa := sa.isLt
  have hda := da.isLt
  have small : da.toNat <<< 4 < 2 ^ 8 := by
    rw [Nat.shiftLeft_eq]
    omega
  rw [addressByte, BitVec.toNat_or, BitVec.toNat_shiftLeft, BitVec.toNat_setWidth_of_le (by decide),
    BitVec.toNat_setWidth_of_le (by decide), Nat.mod_eq_of_lt small, Nat.or_comm,
    ← Nat.shiftLeft_add_eq_or_of_lt hsa, Nat.shiftLeft_eq]
  omega

theorem low_addressByte (sa da : Nibble) : (addressByte sa da).extractLsb' 0 4 = sa := by
  have hsa := sa.isLt
  apply BitVec.eq_of_toNat_eq
  rw [BitVec.extractLsb'_toNat, toNat_addressByte, Nat.shiftRight_zero]
  omega

theorem high_addressByte (sa da : Nibble) : (addressByte sa da).extractLsb' 4 4 = da := by
  have hsa := sa.isLt
  have hda := da.isLt
  apply BitVec.eq_of_toNat_eq
  rw [BitVec.extractLsb'_toNat, toNat_addressByte, Nat.shiftRight_eq_div_pow]
  omega

/-- No bit of the address byte is lost to the two addresses. -/
theorem addressByte_nibbles (x : Byte) : addressByte (x.extractLsb' 0 4) (x.extractLsb' 4 4) = x := by
  have hx := x.isLt
  apply BitVec.eq_of_toNat_eq
  rw [toNat_addressByte, BitVec.extractLsb'_toNat, BitVec.extractLsb'_toNat, Nat.shiftRight_zero,
    Nat.shiftRight_eq_div_pow]
  omega

/-! ### A body with its checksum -/

section
variable {body : List Byte} {plen : Nat}

theorem length_withFcs_eq (h : body.length = plen + 4) : (withFcs body).length = plen + 6 := by
  rw [length_withFcs, h]

theorem fcsMatches_withFcs (h : body.length = plen + 4) : fcsMatches (withFcs body) plen = true :=
  (fcsMatches_iff_residue (length_withFcs_eq h)).mpr (crcAcc_append_fcsBytes_iff.mpr rfl)

/-- The checksum as sent is the one that was computed. -/
theorem sentFcs_withFcs (h : body.length = plen + 4) : sentFcs (withFcs body) plen = crc16 body := by
  have hm := fcsMatches_withFcs h
  rw [fcsMatches, beq_iff_eq, coveredBytes_withFcs h] at hm
  exact hm.symm

/-- The low byte of the checksum is sent first (20_memory.md R54). -/
theorem fcs_byteAt_withFcs (h : body.length = plen + 4) :
    byteAt (withFcs body) (plen + 4) = (crc16 body).extractLsb' 0 8 ∧
    byteAt (withFcs body) (plen + 5) = (crc16 body).extractLsb' 8 8 := by
  have hb := fcsBytes_sentFcs (withFcs body) plen
  rw [sentFcs_withFcs h, fcsBytes] at hb
  obtain ⟨hlo, hhi, -⟩ : _ ∧ _ ∧ _ := by simpa only [List.cons.injEq] using hb
  exact ⟨hlo.symm, hhi.symm⟩

theorem byteAt_withFcs {i : Nat} (h : i < body.length) : byteAt (withFcs body) i = byteAt body i :=
  byteAt_append_left h

end

/-! ### What `dec` accepts -/

/-- The two tests of `dec` and what it answers behind them (41_frame_codec.md R92). -/
theorem dec_eq_ok_iff {b : List Byte} {plen : Nat} {f : Frame} {c : Half} :
    dec b plen = .ok (f, c) ↔
      b.length = plen + 6 ∧ fcsMatches b plen = true ∧ unpackFrame b plen = f ∧ sentFcs b plen = c := by
  unfold dec
  rw [frameLen_eq]
  split_ifs with hl hf <;> simp_all

theorem dec_withFcs {body : List Byte} {plen : Nat} (h : body.length = plen + 4) :
    dec (withFcs body) plen = .ok (unpackFrame (withFcs body) plen, crc16 body) :=
  dec_eq_ok_iff.mpr ⟨length_withFcs_eq h, fcsMatches_withFcs h, rfl, sentFcs_withFcs h⟩

/-! ### The fields of a serialized frame -/

section
variable {fc seq : Byte} {sa da : Nibble} {p : List Byte} {plen : Nat}

theorem enc_eq_some_iff {b : List Byte} :
    enc fc seq sa da p plen = some b ↔ p.length ≤ plen ∧ b = withFcs (frameBody fc seq sa da p plen) := by
  obtain h | h := Nat.lt_or_ge plen p.length
  · simp [enc_of_too_long h, h]
  · simp [enc_of_fits h, h, eq_comm]

/-- Behind the header stands the padded payload (30_encoding.md R60). -/
theorem byteAt_frame_payload (h : p.length ≤ plen) {i : Nat} (hi : i < plen) :
    byteAt (withFcs (frameBody fc seq sa da p plen)) (4 + i) = byteAt p i := by
  rw [byteAt_withFcs (by rw [length_frameBody h]; omega), ← byteAt_padPayload p plen, Nat.add_comm]
  rfl

theorem payloadOf_frame (h : p.length ≤ plen) :
    payloadOf (withFcs (frameBody fc seq sa da p plen)) plen = padPayload p plen :=
  List.take_left' (length_padPayload h)

/-- The fields are unpacked as they were packed, and the payload with its padding (41_frame_codec.md R100). -/
theorem unpackFrame_frame (h : p.length ≤ plen) :
    unpackFrame (withFcs (frameBody fc seq sa da p plen)) plen = ⟨fc, seq, sa, da, padPayload p plen⟩ := by
  rw [unpackFrame, payloadOf_frame h]
  congr
  · exact low_addressByte sa da
  · exact high_addressByte sa da

theorem dec_frame (h : p.length ≤ plen) : dec (withFcs (frameBody fc seq sa da p plen)) plen =
    .ok (⟨fc, seq, sa, da, padPayload p plen⟩, crc16 (frameBody fc seq sa da p plen)) := by
  rw [dec_withFcs (length_frameBody h), unpackFrame_frame h]

end

/-- Settles O22: the header byte by byte, the padded payload behind it, and the two bytes of the checksum. -/
theorem encLaysOutTheFrame : Obligations.EncLaysOutTheFrame := by
  refine fun fc seq sa da p plen => ⟨enc_of_too_long, fun h => ⟨_, enc_of_fits h, ?_⟩⟩
  have hbody : (frameBody fc seq sa da p plen).length = plen + 4 := length_frameBody h
  obtain ⟨hlo, hhi⟩ := fcs_byteAt_withFcs hbody
  rw [← coveredBytes_eq, coveredBytes_withFcs hbody, hlo, hhi]
  refine ⟨length_withFcs_eq hbody, rfl, rfl, toNat_addressByte sa da, rfl, fun i hi => ?_, fun i hi hi' => ?_, ?_, ?_⟩
  · exact byteAt_frame_payload h (hi.trans_le h)
  · rw [byteAt_frame_payload h hi', byteAt_of_length_le hi]
  · simp
  · simp only [BitVec.extractLsb'_toNat, Nat.shiftRight_eq_div_pow]
    omega

/-! ### The round trip -/

/-- The fields that `dec` unpacks make the covered bytes again, but for the reserved byte (30_encoding.md R66). -/
theorem frameBody_unpackFrame {b : List Byte} {plen : Nat} (h : b.length = plen + 6) :
    frameBody (byteAt b 0) (byteAt b 1) (sourceOf b) (destOf b) (payloadOf b plen) plen =
      (b.take (plen + 4)).set 3 0 := by
  match b, h with
  | b₀ :: b₁ :: b₂ :: b₃ :: rest, h =>
    have hrest : rest.length = plen + 2 := by simpa using h
    have hpad : padPayload (rest.take plen) plen = rest.take plen := by
      simp [padPayload, hrest]
    have haddr : addressByte (sourceOf (b₀ :: b₁ :: b₂ :: b₃ :: rest)) (destOf (b₀ :: b₁ :: b₂ :: b₃ :: rest)) = b₂ :=
      addressByte_nibbles b₂
    rw [frameBody, headerBytes, haddr]
    exact congrArg (fun l => b₀ :: b₁ :: b₂ :: 0 :: l) hpad

/-- Settles O24: `dec` finds a body with its checksum and unpacks what was packed; and the fields it unpacks make the
covered bytes again, but for the reserved byte. -/
theorem decUndoesEnc : Obligations.DecUndoesEnc := by
  refine ⟨fun fc seq sa da p plen h => ⟨_, _, enc_of_fits h, dec_frame h⟩, fun b plen f c hdec => ?_⟩
  obtain ⟨hlen, -, rfl, -⟩ := dec_eq_ok_iff.mp hdec
  rw [← frameBody_unpackFrame hlen]
  exact enc_of_fits (List.length_take_le _ _)

/-! ### An altered byte -/

theorem crcFrom_injective (s : List Byte) : Function.Injective (crcFrom · s) := by
  simpa only [crcFrom_eq_crcBits] using crcBits_injective (bitsOf s)

theorem crcStep_byte_injective (c : Half) : Function.Injective (crcStep c) := by
  intro d d' h
  rw [crcStep_eq_crcBits, crcStep_eq_crcBits] at h
  exact byteBits_injective (crcBits_inj_of_short (by simp) (by simp) h)

/-- One altered byte alters the register: the bytes before it leave the registers equal, it tells them apart, and the
bytes after it keep them apart. -/
theorem eq_byteAt_of_crcAcc_set {b : List Byte} {i : Nat} {x : Byte} (hi : i < b.length)
    (h : crcAcc (b.set i x) = crcAcc b) : x = byteAt b i := by
  have hsplit : b = b.take i ++ byteAt b i :: b.drop (i + 1) := by
    rw [byteAt, List.getD_eq_getElem _ _ hi, List.getElem_cons_drop, List.take_append_drop]
  have hset : b.set i x = b.take i ++ x :: b.drop (i + 1) := List.set_eq_take_append_cons_drop.trans (if_pos hi)
  have hacc : crcAcc (b.take i ++ x :: b.drop (i + 1)) = crcAcc (b.take i ++ byteAt b i :: b.drop (i + 1)) := by
    rw [← hset, h, ← hsplit]
  simp only [crcAcc, crcFrom_append] at hacc
  exact crcStep_byte_injective _ (crcFrom_injective (b.drop (i + 1)) hacc)

/-- Settles O25: the frame leaves the residue, so the frame with the altered byte does not. -/
theorem oneAlteredByteIsCaught : Obligations.OneAlteredByteIsCaught := by
  refine ⟨fun fc seq sa da p b plen i x henc hi hx => ?_, fun b plen h => if_pos (frameLen_eq plen ▸ h)⟩
  obtain ⟨hfits, rfl⟩ := enc_eq_some_iff.mp henc
  have hbody := length_frameBody (fc := fc) (seq := seq) (sa := sa) (da := da) hfits
  have hlen := length_withFcs_eq hbody
  have hlen' : ((withFcs (frameBody fc seq sa da p plen)).set i x).length = plen + 6 := List.length_set.trans hlen
  refine dec_of_not_fcsMatches hlen' fun hvalid => hx (eq_byteAt_of_crcAcc_set (hlen ▸ hi) ?_)
  rw [(fcsMatches_iff_residue hlen').mp hvalid, (fcsMatches_iff_residue hlen).mp (fcsMatches_withFcs hbody)]

end Sys2Proof.Machine
end

section
/-!
SUPPORT. The commands of the frame codec and of the buffers (41_frame_codec.md R93 to R99): the word of each by its
number, the answer of `FRM.ENC` and `FRM.DEC` case by case, and what a buffer reads as afterwards. `FRM.DEC` right after
`FRM.ENC` finds the frame that was serialized (`exec_frmDec_of_frame`), so it delivers the fields that went into it.
-/

namespace Sys2Proof.Machine

/-! ### Words by their numbers -/

theorem ofNat_eq_packWord (imm : Half) (a8 op : Byte) :
    BitVec.ofNat 32 (0x10000 * imm.toNat + 0x100 * a8.toNat + op.toNat) = packWord imm a8 op := by
  rw [← toNat_packWord, BitVec.ofNat_toNat, BitVec.setWidth_eq]

/-- A word without an immediate (30_encoding.md R71, format A). -/
theorem ofNat_eq_packWord_zero (a8 op : Byte) : BitVec.ofNat 32 (0x100 * a8.toNat + op.toNat) = packWord 0 a8 op := by
  simp [← ofNat_eq_packWord]

/-! ### Buffers -/

theorem buffersWf_iff {s : State} : buffersWf s = true ↔
    Memory.wf Config.payloadSize s.txpay = true ∧ Memory.wf Config.payloadSize s.rxpay = true ∧
      Memory.wf Config.frameBufferSize s.fbuf = true := by
  simp only [buffersWf, Bool.and_eq_true, and_assoc]

/-- What a buffer written from index 0 on holds. -/
theorem holds_writeAll {size : Nat} {m : Memory} (h : Memory.wf size m = true) (b : List Byte) :
    Holds (Memory.writeAll m 0 b) b m := by
  intro j
  simp [Memory.read_writeAll h, byteAt]

theorem byteAt_readAll {m : Memory} {n i : Nat} (h : i < n) : byteAt (Memory.readAll m 0 n) i = Memory.read m i := by
  rw [byteAt, Memory.getD_readAll h, Nat.zero_add]

/-- A byte-write command stores the low byte of its value (30_encoding.md R71). -/
theorem byteOperand_eq (v : Half) : byteOperand v = BitVec.ofNat 8 (v.toNat % 256) := by
  apply BitVec.eq_of_toNat_eq
  simp [byteOperand]

/-! ### `FRM.ENC` -/

/-- The state that `FRM.ENC` leaves where the payload fits (`exec_frmEnc_of_fits`). -/
def encoded (s : State) : State :=
  respond .ok 0 (setCrc (crcAcc (txBody s)) (bufferFrame (withFcs (txBody s)) s))

section
variable {s : State}

theorem exec_frmEnc_of_fits (h : s.txlen.toNat ≤ s.plen.toNat) : exec .frmEnc s = .next (encoded s) := by
  simp [exec, execFrmEnc, encodeTx_of_fits h, encoded]

theorem exec_frmEnc_of_too_long (h : s.plen.toNat < s.txlen.toNat) :
    exec .frmEnc s = .next (respond .payloadTooLong 0 s) := by
  simp [exec, execFrmEnc, encodeTx_of_too_long h]

theorem length_txBody (h : s.txlen.toNat ≤ s.plen.toNat) : (txBody s).length = s.plen.toNat + 4 :=
  length_frameBody (by simpa using h)

@[simp] theorem encoded_plen (s : State) : (encoded s).plen = s.plen := by simp [encoded]

@[simp] theorem encoded_rxpay (s : State) : (encoded s).rxpay = s.rxpay := by simp [encoded]

/-- `FLEN` fits in `FBLEN` (10_state.md R14, R26). -/
theorem toNat_fblen_encoded (h : s.plen.toNat ≤ 249) : (encoded s).fblen.toNat = flen (encoded s) := by
  rw [flen, encoded_plen, encoded, respond_fblen, setCrc_fblen, bufferFrame_fblen, BitVec.toNat_ofNat, flen]
  omega

/-- The frame buffer holds the frame that was serialized. -/
theorem frameBytes_encoded (hfits : s.txlen.toNat ≤ s.plen.toNat) (hplen : s.plen.toNat ≤ 249)
    (hw : buffersWf s = true) : frameBytes (encoded s) = withFcs (txBody s) := by
  obtain ⟨-, -, hfbuf⟩ := buffersWf_iff.mp hw
  rw [frameBytes, toNat_fblen_encoded hplen, flen, encoded_plen, ← flen, ← length_txFrame hfits]
  exact Memory.readAll_writeAll hfbuf 0

end

/-- Settles O26: both outcomes of `encodeTx`; the frame buffer holds the frame, and the generator has run over the bytes
before its checksum. -/
theorem frmEncSerializesTheTxFrame : Obligations.FrmEncSerializesTheTxFrame := by
  refine ⟨decode_eq_ok_iff.mpr rfl, fun s => ⟨exec_frmEnc_of_too_long, fun hfits _ hw => ?_⟩⟩
  obtain ⟨-, -, hfbuf⟩ := buffersWf_iff.mp hw
  refine ⟨withFcs (txBody s), _, enc_of_fits (by simpa using hfits), exec_frmEnc_of_fits hfits, ?_,
    holds_writeAll hfbuf _⟩
  have hfblen : BitVec.ofNat 8 (flen s) = s.plen + 6 := by
    simp [flen, BitVec.ofNat_add]
  rw [← coveredBytes_eq, coveredBytes_withFcs (length_txBody hfits), ← hfblen]
  simp only [encoded, respond, setCrc, bufferFrame]

/-! ### `FRM.DEC` -/

section
variable {s : State}

theorem exec_frmDec_of_length_ne (h : s.fblen.toNat ≠ flen s) :
    exec .frmDec s = .next (respond .lengthMismatch 0 (clearRxv s)) := by
  simp [exec, execFrmDec, beq_eq_false_iff_ne.mpr h]

/-- The state in which `FRM.DEC` compares the checksums: `RXV` has fallen, and the generator has run over the covered
bytes (41_frame_codec.md R94). -/
def checked (s : State) : State := checkFrame (frameBytes s) (clearRxv s)

@[simp] theorem checked_plen (s : State) : (checked s).plen = s.plen := by simp [checked]

@[simp] theorem checked_rxpay (s : State) : (checked s).rxpay = s.rxpay := by simp [checked]

theorem exec_frmDec_of_not_fcsMatches (hl : s.fblen.toNat = flen s)
    (hf : fcsMatches (frameBytes s) s.plen.toNat = false) :
    exec .frmDec s = .next (respond .fcsMismatch 0 (checked s)) := by
  simp [exec, execFrmDec, decodeBuffer, checked, hl, hf]

theorem exec_frmDec_of_fcsMatches (hl : s.fblen.toNat = flen s)
    (hf : fcsMatches (frameBytes s) s.plen.toNat = true) :
    exec .frmDec s = .next (respond .ok 0 (deliver (frameBytes s) (checked s))) := by
  simp [exec, execFrmDec, decodeBuffer, checked, hl, hf]

/-- `crc_acc` of the covered bytes, with `CRC_XOROUT`, is the checksum that is compared. -/
theorem fcsMatches_iff {b : List Byte} {plen : Nat} :
    fcsMatches b plen = true ↔ crcAcc (b.take (plen + 4)) ^^^ 0xFFFF =
      BitVec.ofNat 16 ((byteAt b (plen + 4)).toNat + 256 * (byteAt b (plen + 5)).toNat) := by
  rw [fcsMatches, beq_iff_eq, coveredBytes_eq, sentFcs_eq]
  rfl

end

/-- Settles O27: the two tests of `FRM.DEC` in their order, and the delivery behind them with each field as a number. -/
theorem frmDecDeliversTheBufferedFrame : Obligations.FrmDecDeliversTheBufferedFrame := by
  refine ⟨decode_eq_ok_iff.mpr rfl, fun s => ⟨exec_frmDec_of_length_ne, fun hl hf => ?_, fun hl hf hw => ?_⟩⟩
  · have hf : fcsMatches (frameBytes s) s.plen.toNat = false := by
      rw [Bool.eq_false_iff, ne_eq, fcsMatches_iff]
      exact hf
    rw [exec_frmDec_of_not_fcsMatches hl hf, checked, checkFrame_eq, coveredBytes_eq]
    rfl
  · obtain ⟨-, hrxpay, -⟩ := buffersWf_iff.mp hw
    refine ⟨_, exec_frmDec_of_fcsMatches hl (fcsMatches_iff.mpr hf), ?_, holds_writeAll hrxpay _⟩
    rw [← sourceOf_eq, ← destOf_eq, ← sentFcs_eq, ← coveredBytes_eq]
    rfl

/-! ### `FRM.DEC` right after `FRM.ENC` -/

/-- A body with its checksum in the frame buffer is delivered. -/
theorem exec_frmDec_of_frame {s : State} {body : List Byte} (hl : s.fblen.toNat = flen s)
    (hlen : body.length = s.plen.toNat + 4) (hb : frameBytes s = withFcs body) :
    exec .frmDec s = .next (respond .ok 0 (deliver (withFcs body) (checked s))) := by
  rw [← hb]
  exact exec_frmDec_of_fcsMatches hl (hb ▸ fcsMatches_withFcs hlen)

/-- `FRM.DEC` right after `FRM.ENC` delivers the frame that was serialized. -/
theorem exec_frmDec_encoded {s : State} (hfits : s.txlen.toNat ≤ s.plen.toNat) (hplen : s.plen.toNat ≤ 249)
    (hw : buffersWf s = true) :
    exec .frmDec (encoded s) = .next (respond .ok 0 (deliver (withFcs (txBody s)) (checked (encoded s)))) :=
  exec_frmDec_of_frame (toNat_fblen_encoded hplen) (by rw [encoded_plen, length_txBody hfits])
    (frameBytes_encoded hfits hplen hw)

/-- The RX payload buffer after the delivery of a serialized frame: its padded payload, and beyond it what was there. -/
theorem read_rxpay_deliver_frame {fc seq : Byte} {sa da : Nibble} {p : List Byte} {plen : Nat} {u : State}
    {m : Memory} {size : Nat} (hplen : u.plen.toNat = plen) (hm : u.rxpay = m) (hw : Memory.wf size m = true)
    (h : p.length ≤ plen) (j : Nat) :
    Memory.read (deliver (withFcs (frameBody fc seq sa da p plen)) u).rxpay j =
      if j < plen then byteAt p j else Memory.read m j := by
  rw [deliver_rxpay, hplen, hm, payloadOf_frame h, holds_writeAll hw, length_padPayload h, byteAt_padPayload]

/-- Settles O28: `FRM.DEC` finds in the frame buffer the body that `FRM.ENC` put there with its checksum, and the fields
it unpacks are those that were packed (`unpackFrame_frame`). -/
theorem frmDecUndoesFrmEnc : Obligations.FrmDecUndoesFrmEnc := by
  intro s hfits hplen hw
  obtain ⟨-, hrxpay, -⟩ := buffersWf_iff.mp hw
  have hsupplied : (suppliedPayload s).length ≤ s.plen.toNat := by simpa using hfits
  obtain ⟨hfc, hseq, hsa, hda, -⟩ := Frame.mk.inj
    (unpackFrame_frame (fc := s.txfc) (seq := s.txseq) (sa := s.txsa) (da := s.txda) hsupplied)
  have hread (j : Nat) :
      Memory.read (deliver (withFcs (txBody s)) (checked (encoded s))).rxpay j =
        if j < s.plen.toNat then byteAt (suppliedPayload s) j else Memory.read s.rxpay j :=
    read_rxpay_deliver_frame (by simp) (by simp) hrxpay hsupplied j
  refine ⟨_, _, exec_frmEnc_of_fits hfits, exec_frmDec_encoded hfits hplen hw, rfl, rfl, hfc, hseq, hsa, hda,
    fun i hi => ?_, fun i hi hi' => ?_, fun i hi => ?_⟩ <;> rw [respond_rxpay, hread]
  · rw [if_pos (hi.trans_le hfits)]
    exact byteAt_readAll hi
  · rw [if_pos hi', byteAt_of_length_le (by simpa using hi)]
  · rw [if_neg hi.not_gt]

/-! ### `FRM.ERRC` and the buffer commands -/

/-- The error code is bits 7:6 of the frame-control byte (30_encoding.md R64). -/
theorem toNat_errorCode (fc : Byte) : (errorCode fc).toNat = fc.toNat / 64 := by
  have hfc := fc.isLt
  have hmask : fc.toNat >>> 6 &&& 0xC0 >>> 6 = fc.toNat >>> 6 % 2 ^ 2 := Nat.and_two_pow_sub_one_eq_mod _ 2
  rw [errorCode, BitVec.toNat_ushiftRight, BitVec.toNat_and, Nat.shiftRight_and_distrib]
  refine hmask.trans ?_
  rw [Nat.shiftRight_eq_div_pow]
  omega

/-- Settles O29: the word of `FRM.ERRC`, and its response. -/
theorem frmErrcAnswersTheErrorCode : Obligations.FrmErrcAnswersTheErrorCode := by
  refine ⟨fun c => decode_eq_ok_iff.mpr (ofNat_eq_packWord_zero c 0x22), fun c s => ?_⟩
  rw [← toNat_errorCode, BitVec.ofNat_toNat]
  rfl

/-- Settles O30: `TXP.WR` with an index in range writes its one byte; any other index is out of range (R75). -/
theorem txpWrStoresOneByte : Obligations.TxpWrStoresOneByte := by
  refine ⟨fun i v => decode_eq_ok_iff.mpr (ofNat_eq_packWord v i 0x23), fun i v s => ⟨fun hi => ?_, fun hi hw => ?_⟩⟩
  · exact (illegalOperandExactlyWhenOutOfRange (.txpWr i v) s).1 (decide_eq_false (Nat.not_lt_of_ge hi))
  · have hlt : i.toNat < Config.payloadSize := Nat.lt_succ_of_le hi
    obtain ⟨htxpay, -, -⟩ := buffersWf_iff.mp hw
    exact ⟨_, if_pos hlt, rfl, fun j => byteOperand_eq v ▸ Memory.read_write htxpay j⟩

/-- Settles O31: `RXP.RD` with an index in range answers its one byte; any other index is out of range (R75). -/
theorem rxpRdAnswersOneByte : Obligations.RxpRdAnswersOneByte := by
  refine ⟨fun i => decode_eq_ok_iff.mpr (ofNat_eq_packWord_zero i 0x24), fun i s => ⟨fun hi => ?_, fun hi => ?_⟩⟩
  · exact (illegalOperandExactlyWhenOutOfRange (.rxpRd i) s).1 (decide_eq_false (Nat.not_lt_of_ge hi))
  · exact if_pos (Nat.lt_succ_of_le hi)

/-- Settles O32: `FB.WR` with an index in range writes its one byte; index 255 is out of range (R75). -/
theorem fbWrStoresOneByte : Obligations.FbWrStoresOneByte := by
  refine ⟨fun i v => decode_eq_ok_iff.mpr (ofNat_eq_packWord v i 0x25), fun i v s => ⟨fun hi => ?_, fun hi hw => ?_⟩⟩
  · exact (illegalOperandExactlyWhenOutOfRange (.fbWr i v) s).1 (decide_eq_false hi.not_lt)
  · have hlt : i.toNat < Config.frameBufferSize := Nat.lt_succ_of_le hi
    obtain ⟨-, -, hfbuf⟩ := buffersWf_iff.mp hw
    exact ⟨_, if_pos hlt, rfl, fun j => byteOperand_eq v ▸ Memory.read_write hfbuf j⟩

/-- Settles O33: `FB.RD` with an index in range answers its one byte; index 255 is out of range (R75). -/
theorem fbRdAnswersOneByte : Obligations.FbRdAnswersOneByte := by
  refine ⟨fun i => decode_eq_ok_iff.mpr (ofNat_eq_packWord_zero i 0x26), fun i s => ⟨fun hi => ?_, fun hi => ?_⟩⟩
  · exact (illegalOperandExactlyWhenOutOfRange (.fbRd i) s).1 (decide_eq_false hi.not_lt)
  · exact if_pos (Nat.lt_succ_of_le hi)

end Sys2Proof.Machine
end

section
/-!
SUPPORT. A command ends (42_link.md R114, R115). `passesLeft` bounds the passes that a command in progress has left; every
pass takes at least one off it, so the budget of a step is never used up. Hence a step of a command goes on after a pass as
the step from the state after that pass would (`resume_of_advance`), and no later proof counts passes.
-/

namespace Sys2Proof.Machine

/-! ### The passes that a command has left -/

/-- The state after the environment's turn at the next interleaving point. -/
abbrev turned (s : State) : State := envMoves (nextTurn s) (dropTurn s)

/-- The waits that `LNK.SYNC` has left before it times out (42_link.md R115 lines 7 and 8). -/
def waitsLeft (s : State) : Nat := s.tmo.toNat / 10 + 1 - s.elapsed.toNat / 10

/-- A bound on the passes of a poll from its read, or from a wait, on: two for each byte to come and for each wait left. -/
def pollPasses (s : State) : Nat := 2 * bytesToCome s + 2 * waitsLeft s + 1

/-- A bound on the passes of a send from its last flush on, with all the waits that may follow it. -/
def flushPasses (s : State) : Nat := 2 * bytesToCome s + 2 * (s.tmo.toNat / 10 + 1) + 3

/-- A bound on the passes that the command in progress has left (`advance_passesLeft_lt`, `passesLeft_le_passBudget`). -/
def passesLeft (s : State) : Nat :=
  match s.ctl with
  | .idle => 0
  | .run .opening => 1
  | .run .closing => 1
  | .run (.write _) => flushPasses s + 1
  | .run (.byteWrite _ i) => flushPasses s + 3 * (flen s - i) + 3
  | .run (.byteFlush _ i) => flushPasses s + 3 * (flen s - i) + 2
  | .wait (.byte _ i) => flushPasses s + 3 * (flen s - i) + 1
  | .run (.flush _) => flushPasses s
  | .run (.avail _) => pollPasses s + 1
  | .run (.read _) => pollPasses s
  | .wait .poll => pollPasses s

/-- `LNK.SYNC` waits only while the time waited is not beyond `TMO` (42_link.md R115 line 7). -/
abbrev WaitsInTime (s : State) : Prop := s.ctl = .wait .poll → s.elapsed.toNat ≤ s.tmo.toNat

theorem passesLeft_le_passBudget (s : State) : passesLeft s ≤ passBudget s := by
  unfold passesLeft
  split <;> simp only [flushPasses, pollPasses, waitsLeft, passBudget] <;> omega

theorem passesLeft_of_idle {s : State} (h : s.ctl = .idle) : passesLeft s = 0 := by
  simp [passesLeft, h]

/-- A command in progress has at least one pass left. -/
theorem idle_of_passesLeft {s : State} (h : passesLeft s = 0) : s.ctl = .idle := by
  cases hc : s.ctl with
  | idle => rfl
  | run p => cases p <;> simp [passesLeft, hc, flushPasses, pollPasses] at h
  | wait w => cases w <;> simp [passesLeft, hc, pollPasses] at h

/-- The environment's turn only moves bytes to come into `RXQ`. -/
theorem bytesToCome_turned (s : State) : bytesToCome (turned s) = bytesToCome s := by
  cases h : s.env.turns with
  | nil => simp [turned, bytesToCome, nextTurn, h]
  | cons t ts =>
    simp [turned, bytesToCome, nextTurn, h]
    omega

theorem passesLeft_turned (s : State) : passesLeft (turned s) = passesLeft s := by
  simp [passesLeft, flushPasses, pollPasses, waitsLeft, bytesToCome_turned]

/-- The bytes of a frame that is read are no longer to come. -/
theorem bytesToCome_pipeDrop {u : State} {n : Nat} (h : n ≤ u.rxq.length) :
    bytesToCome (pipeDrop n u) + n = bytesToCome u := by
  simp only [bytesToCome, pipeDrop_rxq, pipeDrop_env, List.length_drop]
  omega

theorem toNat_elapsed_countWait {u : State} (h : u.elapsed.toNat ≤ u.tmo.toNat) :
    (countWait u).elapsed.toNat = u.elapsed.toNat + 10 := by
  have htmo := u.tmo.isLt
  simp only [countWait_elapsed, pollInterval]
  bv_omega

section
variable {f : Option Nat} {u t : State}

theorem Pass.waitsInTime (h : Pass f u t) (hb : u.ctl ≠ .idle) : WaitsInTime t := by
  intro hc
  cases h with
  | idle hu => exact absurd hu hb
  | waits _ _ _ he => exact he
  | dropsWaits b v _ _ _ _ hv _ _ _ he => simpa [hv] using he
  | _ => cases hc

/-- What a pass that reads a frame leaves for later: at least two passes fewer, as a frame is not empty. -/
theorem pollPasses_read_lt {v : State} (hl : flen u ≤ u.rxq.length) (hq : v.rxq = u.rxq.drop (flen u))
    (henv : v.env = u.env) (ht : v.tmo = u.tmo) (he : v.elapsed = u.elapsed) : pollPasses v + 1 < pollPasses u := by
  have hd := bytesToCome_pipeDrop hl
  have hv : bytesToCome v = bytesToCome (pipeDrop (flen u) u) := by simp [bytesToCome, hq, henv]
  have hpos : 6 ≤ flen u := Nat.le_add_left 6 _
  simp only [pollPasses, waitsLeft, hv, ht, he]
  omega

/-- Every pass takes at least one off the passes left. -/
theorem Pass.passesLeft_lt (h : Pass f u t) (hb : u.ctl ≠ .idle) (hw : WaitsInTime u) :
    passesLeft t < passesLeft u := by
  have ends {v : State} (hv : v.ctl = .idle) : passesLeft v < passesLeft u := by
    rw [passesLeft_of_idle hv]
    exact Nat.pos_of_ne_zero fun h0 => hb (idle_of_passesLeft h0)
  cases h with
  | idle hu => exact absurd hu hb
  | writes c hu | byteWrites c i hu | byteFlushes c i hu => simp [passesLeft, hu, flushPasses, bytesToCome]
  | nextByte c i hu hi =>
    simp only [passesLeft, hu, flushPasses, bytesToCome, setCtl_ctl, setCtl_flen, setCtl_rxq, setCtl_env, setCtl_tmo]
    omega
  | lastByte c i hu =>
    simp only [passesLeft, hu, flushPasses, bytesToCome, setCtl_ctl, setCtl_rxq, setCtl_env, setCtl_tmo]
    omega
  | sentSync hu =>
    simp only [passesLeft, hu, flushPasses, pollPasses, waitsLeft, bytesToCome, setCtl_ctl, setCtl_rxq, setCtl_env,
      setCtl_tmo, setCtl_elapsed, pipeFlushed_rxq, pipeFlushed_env, pipeFlushed_tmo, pipeFlushed_elapsed]
    omega
  | waits hu | available c hu => simp [passesLeft, hu, pollPasses, waitsLeft, bytesToCome]
  | foreignFrame c b v hu _ hl _ hv =>
    have hlt := pollPasses_read_lt (v := setCtl (.run (.avail c)) v) hl
      (by simp [hv]) (by simp [hv]) (by simp [hv]) (by simp [hv])
    simpa [passesLeft, hu] using hlt
  | dropsWaits b v hu _ hl _ hv =>
    have hlt := pollPasses_read_lt (v := setCtl (.wait .poll) (clearRxv v)) hl
      (by simp [hv]) (by simp [hv]) (by simp [hv]) (by simp [hv])
    simpa [passesLeft, hu] using Nat.lt_of_succ_lt hlt
  | pollsAgain hu =>
    have he := toNat_elapsed_countWait (hw hu)
    have hle := hw hu
    simp only [passesLeft, hu, pollPasses, waitsLeft, bytesToCome, setCtl_ctl, setCtl_rxq, setCtl_env,
      setCtl_tmo, setCtl_elapsed, he, countWait_tmo, countWait_rxq, countWait_env]
    omega
  | _ => exact ends rfl

end

theorem advance_passesLeft_lt {s t : State} (hc : canAdvance s = true) (hw : WaitsInTime s)
    (h : advance s = .next t) : passesLeft t < passesLeft s ∧ WaitsInTime t := by
  have hb : s.ctl ≠ .idle := (canAdvance_iff.mp hc).1
  rw [← passesLeft_turned s]
  obtain ⟨-, ⟨-, rfl⟩ | ⟨-, hp⟩⟩ := advance_next h
  · exact ⟨Nat.pos_of_ne_zero fun h0 => hb (idle_of_passesLeft (s := turned s) h0), nofun⟩
  · exact ⟨hp.passesLeft_lt hb hw, hp.waitsInTime hb⟩

/-! ### A step takes a command as far as its environment is known -/

/-- Passes allowed beyond those that the command has left change nothing, whatever it answers. -/
theorem carryOn_eq_of_passesLeft_le {n m : Nat} {s : State} (hw : WaitsInTime s) (hn : passesLeft s ≤ n)
    (hm : passesLeft s ≤ m) : carryOn n s = carryOn m s := by
  induction n generalizing s m with
  | zero =>
    have hc : canAdvance s = false := by simp [canAdvance, idle_of_passesLeft (Nat.le_zero.mp hn)]
    rw [carryOn_of_stopped hc, carryOn_of_stopped hc]
  | succ n ih =>
    cases hc : canAdvance s with
    | false => rw [carryOn_of_stopped hc, carryOn_of_stopped hc]
    | true =>
      obtain ⟨m, rfl⟩ : ∃ k, m = k + 1 := by
        refine ⟨m - 1, (Nat.succ_pred ?_).symm⟩
        rintro rfl
        exact (canAdvance_iff.mp hc).1 (idle_of_passesLeft (Nat.le_zero.mp hm))
      cases ha : advance s with
      | next t =>
        obtain ⟨hlt, hwt⟩ := advance_passesLeft_lt hc hw ha
        rw [carryOn_succ_next hc ha, carryOn_succ_next hc ha]
        exact ih hwt (by omega) (by omega)
      | fault r => simp [carryOn, hc, ha]
      | refused r => simp [carryOn, hc, ha]

/-- A step of a command in progress is its next pass, and then a step from the state after that pass. -/
theorem resume_of_advance {s t : State} (hw : WaitsInTime s) (hc : canAdvance s = true) (h : advance s = .next t) :
    resume s = resume t := by
  obtain ⟨hlt, hwt⟩ := advance_passesLeft_lt hc hw h
  have hs := passesLeft_le_passBudget s
  obtain ⟨n, hn⟩ : ∃ n, passBudget s = n + 1 := ⟨passBudget s - 1, by omega⟩
  rw [resume, hn, carryOn_succ_next hc h]
  exact carryOn_eq_of_passesLeft_le hwt (by omega) (passesLeft_le_passBudget t)

theorem resume_of_stopped {s : State} (h : canAdvance s = false) : resume s = .next s := carryOn_of_stopped h

theorem resume_of_idle {s : State} (h : s.ctl = .idle) : resume s = .next s :=
  resume_of_stopped (by simp [canAdvance, h])

/-! ### Every command ends -/

theorem advance_openEnded {s t : State} (h : advance s = .next t) : t.env.openEnded = s.env.openEnded := by
  obtain ⟨-, ⟨-, rfl⟩ | ⟨-, hp⟩⟩ := advance_next h
  · rfl
  · rw [hp.env_eq]
    rfl

/-- Where the whole environment is known, enough passes take a command to its end. -/
theorem carryOn_ends {n : Nat} {s t : State} (hw : WaitsInTime s) (he : s.env.openEnded = false)
    (hn : passesLeft s ≤ n) (h : carryOn n s = .next t) : t.ctl = .idle := by
  induction n generalizing s with
  | zero =>
    cases h
    exact idle_of_passesLeft (Nat.le_zero.mp hn)
  | succ n ih =>
    by_cases hb : s.ctl = .idle
    · rw [carryOn_of_stopped (by simp [canAdvance, hb])] at h
      cases h
      exact hb
    · have hc : canAdvance s = true := canAdvance_iff.mpr ⟨hb, by simp [held, he]⟩
      cases ha : advance s with
      | next u =>
        obtain ⟨hlt, hwu⟩ := advance_passesLeft_lt hc hw ha
        rw [carryOn_succ_next hc ha] at h
        exact ih hwu ((advance_openEnded ha).trans he) (by omega) h
      | fault r => simp [carryOn, hc, ha] at h
      | refused r => simp [carryOn, hc, ha] at h

/-- A pass goes on with the command or answers (30_encoding.md R70). -/
theorem Pass.in_progress_or_answered {f : Option Nat} {u t : State} (h : Pass f u t) (hb : u.ctl ≠ .idle) :
    t.ctl ≠ .idle ∨ t.response ≠ none := by
  cases h with
  | idle hu => exact absurd hu hb
  | writes | byteWrites | byteFlushes | nextByte | lastByte | sentSync | waits | available | foreignFrame | dropsWaits
  | pollsAgain => exact .inl nofun
  | _ => exact .inr nofun

theorem Launches.waitsInTime {s u : State} {i : Instr} {c : Control} (h : Launches s i c u) :
    WaitsInTime (accept c u) := by
  intro hc
  cases h with
  | lnkOpen | lnkClose | lnkPoll | lnkSend | lnkSync => cases hc

/-- Settles O54: a command answers at once, or it is launched with no more passes left than its step may make. -/
theorem everyCommandEnds : Obligations.EveryCommandEnds := by
  intro i s t _ _ he h
  obtain ⟨r, u, -, rfl⟩ | ⟨c, u, hl, hr⟩ := exec_next h
  · exact ⟨rfl, fun _ => nofun⟩
  · have hidle : t.ctl = .idle :=
      carryOn_ends hl.waitsInTime (hl.env_eq ▸ he) (passesLeft_le_passBudget _) hr
    refine ⟨by simp [phaseOf, hidle], fun hn => ?_⟩
    have hb : (accept c u).ctl ≠ .idle := ne_idle_of_commandOf hl.commandOf_eq
    have hdone := resume_induct_of_noResetInput (P := fun v => v.ctl ≠ .idle ∨ v.response ≠ none)
      (fun _ _ hv => hv) (fun _ _ _ hv _ hp => hp.in_progress_or_answered hv) (hl.noResetInput hn) (.inl hb) hr
    exact hdone.resolve_left fun hne => hne hidle

end Sys2Proof.Machine
end

section
/-!
SUPPORT. Opening, closing and sending (42_link.md R110 to R113). For each point of a send, what the step does from there
with the environment's turn; `afterSend` says what is left of a whole send, and composes along its points.
-/

namespace Sys2Proof.Machine

/-! ### A step from one interleaving point to the next -/

/-- The environment's next turn is known, and nothing goes wrong in it: no reset, no overflow, no failing primitive. -/
abbrev Calm (s : State) : Prop := Ready s ∧ (nextTurn s).fail = none

section
variable {s t : State} {c : Caller} {i : Nat}

theorem resume_of_ready (hb : s.ctl ≠ .idle) (hw : WaitsInTime s) (hr : Ready s)
    (h : atPoint (nextTurn s).fail (turned s) = .next t) : resume s = resume t := by
  obtain ⟨hheld, hfits, hreset⟩ := hr
  exact resume_of_advance hw (canAdvance_iff.mpr ⟨hb, hheld⟩) ((withTurn_of_ready hfits hreset).trans h)

theorem resume_at_point {p : Point} (hc : s.ctl = .run p) (hr : Ready s)
    (h : atPoint (nextTurn s).fail (turned s) = .next t) : resume s = resume t :=
  resume_of_ready (by simp [hc]) (by simp [hc]) hr h

theorem resume_ends_at_point {p : Point} (hc : s.ctl = .run p) (hr : Ready s)
    (h : atPoint (nextTurn s).fail (turned s) = .next t) (ht : t.ctl = .idle) : resume s = .next t :=
  (resume_at_point hc hr h).trans (resume_of_idle ht)

theorem pipeFails_of_calm (ho : s.opened = true) (hf : (nextTurn s).fail = none) :
    pipeFails (nextTurn s).fail (turned s) = false :=
  pipeFails_eq_false.mpr ⟨ho, hf⟩

theorem turned_env (s : State) : (turned s).env = envAfter 1 s := by
  simp [envAfter]

/-! ### Opening and closing -/

theorem atOpen_of_ok {f : Option Nat} (hf : f = none) (s : State) :
    atOpen f s = .next (respond .ok 0 (pipeOpened s)) := by
  simp [atOpen, pipeOpen, hf]

theorem atOpen_of_fail {f : Option Nat} (hf : f ≠ none) (s : State) : atOpen f s = .next (respond .linkIo 0 s) := by
  simp [atOpen, pipeOpen_eq_none.mpr hf, linkIo]

theorem atClose_of_ok {f : Option Nat} (hf : f = none) (s : State) :
    atClose f s = .next (respond .ok 0 (pipeClosed s)) := by
  simp [atClose, pipeClose, hf]

theorem atClose_of_fail {f : Option Nat} (hf : f ≠ none) (s : State) : atClose f s = .next (respond .linkIo 0 s) := by
  simp [atClose, pipeClose_eq_none.mpr hf, linkIo]

/-- `LNK.OPEN` meets the environment once, and ends there. -/
theorem exec_lnkOpen_of_ok (hr : Ready s) (hf : (nextTurn s).fail = none) :
    exec .lnkOpen s = .next (respond .ok 0 (pipeOpened (turned s))) :=
  resume_ends_at_point (s := accept (.run .opening) s) rfl hr (atOpen_of_ok hf (accept (.run .opening) (turned s))) rfl

theorem exec_lnkOpen_of_fail (hr : Ready s) (hf : (nextTurn s).fail ≠ none) :
    exec .lnkOpen s = .next (respond .linkIo 0 (turned s)) :=
  resume_ends_at_point (s := accept (.run .opening) s) rfl hr
    (atOpen_of_fail hf (accept (.run .opening) (turned s))) rfl

/-- `LNK.CLOSE` meets the environment once, and ends there. -/
theorem exec_lnkClose_of_ok (hr : Ready s) (hf : (nextTurn s).fail = none) :
    exec .lnkClose s = .next (respond .ok 0 (pipeClosed (turned s))) :=
  resume_ends_at_point (s := accept (.run .closing) s) rfl hr (atClose_of_ok hf (accept (.run .closing) (turned s))) rfl

theorem exec_lnkClose_of_fail (hr : Ready s) (hf : (nextTurn s).fail ≠ none) :
    exec .lnkClose s = .next (respond .linkIo 0 (turned s)) :=
  resume_ends_at_point (s := accept (.run .closing) s) rfl hr
    (atClose_of_fail hf (accept (.run .closing) (turned s))) rfl

end

/-- Settles O34: both answers of `PipeOpen`, after the environment's turn. -/
theorem lnkOpenOpensThePipeAfresh : Obligations.LnkOpenOpensThePipeAfresh := by
  refine ⟨decode_eq_ok_iff.mpr rfl, fun s hr => ⟨fun hf => ?_, fun hf => ?_⟩⟩ <;> rw [← turned_env]
  · simp only [exec_lnkOpen_of_ok hr hf, respond, pipeOpened, turned, envMoves, dropTurn]
  · simp only [exec_lnkOpen_of_fail hr hf, respond, turned, envMoves, dropTurn]

/-- Settles O35: both answers of `PipeClose`, after the environment's turn; it closes an open pipe, and does nothing to a
closed one. -/
theorem lnkCloseClosesThePipe : Obligations.LnkCloseClosesThePipe := by
  refine ⟨decode_eq_ok_iff.mpr rfl, fun s hr => ?_⟩
  rw [← turned_env]
  refine ⟨fun ho hf => ?_, fun ho hf => ?_, exec_lnkClose_of_fail hr⟩
  · rw [exec_lnkClose_of_ok hr hf, pipeClosed_of_open (s := turned s) ho]
    rfl
  · rw [exec_lnkClose_of_ok hr hf, pipeClosed_of_closed (s := turned s) ho]
    rfl

/-! ### Before the first write of a send -/

theorem startSend_of_too_long {c : Caller} {s : State} (h : s.plen.toNat < s.txlen.toNat) :
    startSend c s = .next (respond .payloadTooLong 0 (assignHeader s)) := by
  rw [startSend, encodeTx_of_too_long (s := assignHeader s) h]
  rfl

/-- Settles O36: the header registers are assigned before the payload is found too long. -/
theorem tooLongPayloadStopsASend : Obligations.TooLongPayloadStopsASend :=
  fun s h => ⟨startSend_of_too_long (c := .own) h, startSend_of_too_long (c := .sync) (s := startSync s) h⟩

/-- What a send of the frame `b` has written before its first write: the header registers, the counter, the frame buffer
and the generator (42_link.md R112 steps 1 to 4); the command has no response yet. -/
def prepared (b : List Byte) (s : State) : State :=
  { s with
    txsa := s.laddr, txda := s.daddr, txseq := s.seqcnt, seqcnt := s.seqcnt + 1
    fbuf := Memory.writeAll s.fbuf 0 b, fblen := s.plen + 6, crc := crcAcc (b.take (s.plen.toNat + 4))
    response := none }

/-- `FLEN` modulo 256, as `FBLEN` holds it (10_state.md R26). -/
theorem ofNat_flen (s : State) : BitVec.ofNat 8 (flen s) = s.plen + 6 := by
  simp [flen, BitVec.ofNat_add]

section
variable {s t : State} {c : Caller} {b : List Byte}

/-- The frame that a send makes is the serialized TX frame with its header assigned. -/
theorem sendFrame_eq_some : sendFrame s = some b ↔
    s.txlen.toNat ≤ s.plen.toNat ∧ b = withFcs (txBody (assignHeader s)) := by
  rw [sendFrame, enc_eq_some_iff, length_suppliedPayload]
  rfl

theorem length_of_sendFrame (h : sendFrame s = some b) : b.length = flen s := by
  obtain ⟨hfits, rfl⟩ := sendFrame_eq_some.mp h
  exact length_txFrame (s := assignHeader s) hfits

/-- A send whose payload fits goes to its first write. -/
theorem startSend_of_sendFrame (h : sendFrame s = some b) :
    startSend c s = resume (setCtl (.run (firstWrite c s)) (prepared b s)) := by
  obtain ⟨hfits, rfl⟩ := sendFrame_eq_some.mp h
  have hbody : (txBody (assignHeader s)).length = s.plen.toNat + 4 := length_txBody (s := assignHeader s) hfits
  rw [startSend, encodeTx_of_fits (s := assignHeader s) hfits, prepared, ← coveredBytes_eq,
    coveredBytes_withFcs hbody, ← ofNat_flen]
  rfl

theorem frameToSend_prepared (h : sendFrame s = some b) (hw : buffersWf s = true) :
    frameToSend (prepared b s) = b := by
  obtain ⟨-, -, hfbuf⟩ := buffersWf_iff.mp hw
  have hlen : flen (prepared b s) = b.length := (length_of_sendFrame h).symm
  rw [frameToSend, hlen]
  exact Memory.readAll_writeAll hfbuf 0

theorem firstWrite_of_txdly_zero (h : s.txdly = 0) : firstWrite c s = .write c := by
  simp [firstWrite, h]

theorem firstWrite_of_txdly_ne_zero (h : s.txdly ≠ 0) : firstWrite c s = .byteWrite c 0 := by
  rw [firstWrite, beq_eq_false_iff_ne.mpr h]

theorem flen_pos (s : State) : 0 < flen s := Nat.succ_pos _

theorem take_one_frameToSend (s : State) : (frameToSend s).take 1 = [Memory.read s.fbuf 0] :=
  take_succ_frameToSend (length_frameToSend s ▸ flen_pos s)

/-! ### A send on a closed pipe -/

/-- How many bytes the first write of a send is asked for (42_link.md R113). -/
def firstWriteLength (s : State) : Nat := if s.txdly = 0 then flen s else 1

/-- A write to a closed pipe fails, and leaves as many of its bytes as the environment chose (20_memory.md R45). -/
theorem resume_firstWrite_closed (hc : s.ctl = .run (firstWrite c s)) (ho : s.opened = false) (hr : Ready s) :
    resume s = .next (respond .linkIo 0 (pipeWrite
      ((frameToSend s).take (min ((nextTurn s).fail.getD 0) (firstWriteLength s))) (turned s))) := by
  have hfails : pipeFails (nextTurn s).fail (turned s) = true := pipeFails_eq_true.mpr (.inl ho)
  refine resume_ends_at_point hc hr ?_ rfl
  by_cases hd : s.txdly = 0
  · rw [firstWrite_of_txdly_zero hd] at hc
    rw [firstWriteLength, if_pos hd, ← length_frameToSend, ← List.take_eq_take_min]
    simp only [atPoint, envMoves_ctl, dropTurn_ctl, hc, atWrite, hfails]
    rfl
  · rw [firstWrite_of_txdly_ne_zero hd] at hc
    rw [firstWriteLength, if_neg hd, ← List.take_take, take_one_frameToSend]
    simp only [atPoint, envMoves_ctl, dropTurn_ctl, hc, atByteWrite, hfails]
    rfl

theorem startSend_closed (hf : sendFrame s = some b) (hw : buffersWf s = true) (ho : s.opened = false)
    (hr : Ready s) : startSend c s = .next (respond .linkIo 0 (pipeWrite
      (b.take (min ((nextTurn s).fail.getD 0) (firstWriteLength s))) (turned (prepared b s)))) := by
  have hframe : frameToSend (setCtl (.run (firstWrite c s)) (prepared b s)) = b := frameToSend_prepared hf hw
  rw [startSend_of_sendFrame hf,
    resume_firstWrite_closed (s := setCtl (.run (firstWrite c s)) (prepared b s)) rfl ho hr, hframe]
  rfl

theorem read_fbuf_prepared (hw : buffersWf s = true) : Holds (prepared b s).fbuf b s.fbuf := by
  obtain ⟨-, -, hfbuf⟩ := buffersWf_iff.mp hw
  exact holds_writeAll hfbuf b

end

/-- Settles O37: the first write finds the pipe closed, whatever the environment does there. -/
theorem sendOnAClosedPipeFails : Obligations.SendOnAClosedPipeFails := by
  intro s b ho hr _ hw hf
  rw [← turned_env]
  exact ⟨⟨_, startSend_closed (c := .own) hf hw ho hr, rfl, read_fbuf_prepared hw⟩,
    ⟨_, startSend_closed (c := .sync) (s := startSync s) hf hw ho hr, rfl, read_fbuf_prepared hw⟩⟩

/-! ### A whole send on an open pipe -/

/-- What a send has done when its last flush is done: `b` on the line after what was given before, in `k` turns of the
environment, which also append what they bring to `RXQ`. -/
def afterSend (k : Nat) (b : List Byte) (s : State) : State :=
  { s with
    rxq := s.rxq ++ arrivedIn k s, wire := s.wire ++ s.txbuf ++ b, txbuf := [], env := envAfter k s }

section
variable {s t : State} {c : Caller} {b : List Byte} {i : Nat}

theorem arrivedIn_succ (k : Nat) (s : State) :
    arrivedIn (k + 1) s = (nextTurn s).arrive ++ arrivedIn k (turned s) := by
  cases h : s.env.turns <;> simp [arrivedIn, nextTurn, h]

theorem envAfter_turned (k : Nat) (s : State) : envAfter k (turned s) = envAfter (k + 1) s := by
  simp [envAfter]

theorem turned_setCtl (x : Control) (s : State) : turned (setCtl x s) = setCtl x (turned s) := rfl

theorem flushed_setCtl (x y : Control) (s : State) :
    setCtl y (pipeFlushed (turned (setCtl x s))) = setCtl y (pipeFlushed (turned s)) := rfl

theorem afterSend_setCtl (k : Nat) (b : List Byte) (x : Control) (s : State) :
    afterSend k b (setCtl x s) = setCtl x (afterSend k b s) := rfl

/-- The environment's turn before the rest of a send is one turn more of the send. -/
theorem afterSend_turned (k : Nat) (b : List Byte) (s : State) : afterSend k b (turned s) = afterSend (k + 1) b s := by
  simp [afterSend, arrivedIn_succ k s, envAfter_turned]

theorem afterSend_pipeWrite (k : Nat) (a b : List Byte) (s : State) :
    afterSend k b (pipeWrite a s) = afterSend k (a ++ b) s := by
  simp [afterSend, pipeWrite, arrivedIn, envAfter]

theorem afterSend_pipeFlushed (k : Nat) (b : List Byte) (s : State) :
    afterSend k b (pipeFlushed s) = afterSend k b s := by
  simp [afterSend, pipeFlushed, arrivedIn, envAfter]

theorem pipeFlushed_eq_afterSend (s : State) : pipeFlushed s = afterSend 0 [] s := by
  simp [afterSend, pipeFlushed, arrivedIn, envAfter]

/-- What follows a send does not depend on where its control stood. -/
theorem sent_setCtl (c : Caller) (x : Control) (s : State) : sent c (setCtl x s) = sent c s := by
  cases c <;> rfl

/-- Nothing goes wrong in any turn of the environment, all of which is known: no failing primitive, no reset, and no bytes
beyond `RX_DEPTH`. -/
abbrev Harmless (s : State) : Prop :=
  (∀ e ∈ s.env.turns, (e.arrive = [] ∨ s.params.rxDepth = none) ∧ e.fail = none ∧ e.resetInput = false) ∧
  s.env.openEnded = false

theorem Benign.harmless (h : Benign s) : Harmless s := by
  obtain ⟨ht, ho, hd⟩ := h
  exact ⟨fun e he => ⟨.inr hd, ht e he⟩, ho⟩

theorem Quiet.harmless (h : Quiet s) : Harmless s := by
  simp [Harmless, h]

theorem Harmless.turned (h : Harmless s) : Harmless (turned s) := by
  obtain ⟨ht, ho⟩ := h
  exact ⟨fun e he => ht e (List.mem_of_mem_tail he), ho⟩

/-- What a turn of the environment brings is that of one of its turns, or nothing. -/
theorem nextTurn_mem_or_default (s : State) : nextTurn s ∈ s.env.turns ∨ nextTurn s = {} := by
  cases h : s.env.turns <;> simp [nextTurn, h]

theorem Harmless.calm (h : Harmless s) : Calm s := by
  obtain ⟨ht, ho⟩ := h
  have hheld : held s = false := by simp [held, ho]
  obtain hmem | hdefault := nextTurn_mem_or_default s
  · obtain ⟨hfits, hfail, hreset⟩ := ht _ hmem
    refine ⟨⟨hheld, ?_, hreset⟩, hfail⟩
    exact hfits.elim (fun hnil => by simp [rxFits, hnil]) (fun hd => rxFits_of_unbounded hd _)
  · simp [Calm, Ready, hheld, hdefault, rxFits]

/-- The last flush of a send, and what follows (42_link.md R112 steps 5 and 6). -/
theorem resume_at_flush (hc : s.ctl = .run (.flush c)) (ho : s.opened = true) (hb : Calm s)
    (h : sent c (afterSend 1 [] s) = .next t) : resume s = resume t := by
  obtain ⟨hr, hf⟩ := hb
  refine resume_at_point hc hr ?_
  simp only [atPoint, envMoves_ctl, dropTurn_ctl, hc, atFlush]
  rw [pipeFlush_eq_some.mpr ⟨pipeFails_of_calm ho hf, rfl⟩, pipeFlushed_eq_afterSend, afterSend_turned]
  exact h

/-- The write of the whole frame (42_link.md R113). -/
theorem resume_at_write (hc : s.ctl = .run (.write c)) (ho : s.opened = true) (hb : Calm s) :
    resume s = resume (setCtl (.run (.flush c)) (pipeWrite (frameToSend s) (turned s))) := by
  obtain ⟨hr, hf⟩ := hb
  refine resume_at_point hc hr ?_
  simp only [atPoint, envMoves_ctl, dropTurn_ctl, hc, atWrite, pipeFails_of_calm ho hf]
  rfl

/-- The environment has taken its turn, and frame byte `i` is written. -/
def byteWritten (i : Nat) (s : State) : State := pipeWrite [Memory.read s.fbuf i] (turned s)

theorem resume_at_byteWrite (hc : s.ctl = .run (.byteWrite c i)) (ho : s.opened = true) (hb : Calm s) :
    resume s = resume (setCtl (.run (.byteFlush c i)) (byteWritten i s)) := by
  obtain ⟨hr, hf⟩ := hb
  refine resume_at_point hc hr ?_
  simp only [atPoint, envMoves_ctl, dropTurn_ctl, hc, atByteWrite, pipeFails_of_calm ho hf]
  rfl

theorem resume_at_byteFlush (hc : s.ctl = .run (.byteFlush c i)) (ho : s.opened = true) (hb : Calm s) :
    resume s = resume (setCtl (.wait (.byte c i)) (pipeFlushed (turned s))) := by
  obtain ⟨hr, hf⟩ := hb
  refine resume_at_point hc hr ?_
  simp only [atPoint, envMoves_ctl, dropTurn_ctl, hc, atByteFlush]
  rw [pipeFlush_eq_some.mpr ⟨pipeFails_of_calm ho hf, rfl⟩]
  rfl

theorem resume_at_byteWait (hc : s.ctl = .wait (.byte c i)) (hr : Ready s)
    (h : afterByte c i (turned s) = .next t) : resume s = resume t :=
  resume_of_ready (by simp [hc]) (by simp [hc]) hr (by simp [atPoint, hc, h])

theorem afterByte_of_lt (h : i + 1 < flen s) :
    afterByte c i s = .next (setCtl (.run (.byteWrite c (i + 1))) s) := by
  rw [afterByte, Nat.blt_eq.mpr h]
  rfl

theorem afterByte_of_le (h : flen s ≤ i + 1) : afterByte c i s = .next (setCtl (.run (.flush c)) s) := by
  rw [afterByte, blt_eq_false.mpr h]
  rfl

/-- What follows a byte does not depend on where its control stood. -/
theorem afterByte_setCtl (c : Caller) (i : Nat) (x : Control) (s : State) :
    afterByte c i (setCtl x s) = afterByte c i s := by
  obtain h | h := Nat.lt_or_ge (i + 1) (flen s)
  · rw [afterByte_of_lt h, afterByte_of_lt (s := setCtl x s) h]
    rfl
  · rw [afterByte_of_le h, afterByte_of_le (s := setCtl x s) h]
    rfl

/-- Frame byte `i` is also flushed, and the wait that follows it is over (42_link.md R113). -/
def byteSent (i : Nat) (s : State) : State := turned (pipeFlushed (turned (byteWritten i s)))

@[simp] theorem byteSent_flen (i : Nat) (s : State) : flen (byteSent i s) = flen s := by
  simp [byteSent, byteWritten]

@[simp] theorem byteSent_opened (i : Nat) (s : State) : (byteSent i s).opened = s.opened := by
  simp [byteSent, byteWritten]

@[simp] theorem byteSent_fbuf (i : Nat) (s : State) : (byteSent i s).fbuf = s.fbuf := by
  simp [byteSent, byteWritten]

theorem afterSend_byteSent (k : Nat) (b : List Byte) (i : Nat) (s : State) :
    afterSend k b (byteSent i s) = afterSend (k + 3) (Memory.read s.fbuf i :: b) s := by
  rw [byteSent, afterSend_turned, afterSend_pipeFlushed, afterSend_turned, byteWritten, afterSend_pipeWrite,
    afterSend_turned]
  rfl

theorem sent_afterSend_byteSent (c : Caller) (k : Nat) (b : List Byte) (x : Control) (i : Nat) (s : State) :
    sent c (afterSend k b (setCtl x (byteSent i s))) = sent c (afterSend (k + 3) (Memory.read s.fbuf i :: b) s) := by
  rw [← afterSend_byteSent, afterSend_setCtl, sent_setCtl]

/-- One byte of a send with a delay: its write, its flush and its wait (42_link.md R113). -/
theorem resume_byte (hc : s.ctl = .run (.byteWrite c i)) (ho : s.opened = true) (hb : Harmless s)
    (h : afterByte c i (byteSent i s) = .next t) : Harmless (byteSent i s) ∧ resume s = resume t := by
  have hwritten : Harmless (setCtl (.run (.byteFlush c i)) (byteWritten i s)) := hb.turned
  have hflushed : Harmless (setCtl (.wait (.byte c i)) (pipeFlushed (turned (byteWritten i s)))) := hwritten.turned
  refine ⟨hflushed.turned, ?_⟩
  rw [resume_at_byteWrite hc ho hb.calm, resume_at_byteFlush rfl (by simpa [byteWritten] using ho) hwritten.calm,
    flushed_setCtl]
  refine resume_at_byteWait rfl hflushed.calm.1 ?_
  rw [turned_setCtl, afterByte_setCtl]
  exact h

theorem drop_frameToSend (h : i < flen s) :
    (frameToSend s).drop i = Memory.read s.fbuf i :: (frameToSend s).drop (i + 1) := by
  have hi : i < (frameToSend s).length := length_frameToSend s ▸ h
  have hread : (frameToSend s)[i] = Memory.read s.fbuf i := by
    rw [← List.getD_eq_getElem _ 0 hi, frameToSend, Memory.getD_readAll h, Nat.zero_add]
  rw [List.drop_eq_getElem_cons hi, hread]

/-- A send with a delay from frame byte `i` on, with `n` bytes after that byte, and its last flush. -/
theorem resume_bytes {n : Nat} (hc : s.ctl = .run (.byteWrite c i)) (ho : s.opened = true) (hb : Harmless s)
    (hn : i + (n + 1) = flen s) (hframe : frameToSend s = b)
    (h : sent c (afterSend (3 * (n + 1) + 1) (b.drop i) s) = .next t) : resume s = resume t := by
  induction n generalizing s i with
  | zero =>
    obtain ⟨hsent, hbyte⟩ := resume_byte hc ho hb (afterByte_of_le (by simp [← hn]))
    have hflush : Harmless (setCtl (.run (.flush c)) (byteSent i s)) := hsent
    have hend : b.drop (i + 1) = [] := List.drop_of_length_le (by simp [← hframe, length_frameToSend, ← hn])
    rw [← hframe, drop_frameToSend (by omega), hframe, hend] at h
    rw [hbyte]
    refine resume_at_flush rfl (by simpa using ho) hflush.calm ?_
    rwa [sent_afterSend_byteSent]
  | succ n ih =>
    have hlt : i + 1 < flen s := by omega
    obtain ⟨hsent, hbyte⟩ := resume_byte hc ho hb (afterByte_of_lt (by simpa using hlt))
    have hnext : Harmless (setCtl (.run (.byteWrite c (i + 1))) (byteSent i s)) := hsent
    rw [← hframe, drop_frameToSend (by omega), hframe] at h
    rw [hbyte]
    refine ih rfl (by simpa using ho) hnext ?_ (by simpa [frameToSend] using hframe) ?_
    · rw [setCtl_flen, byteSent_flen]
      omega
    · rwa [sent_afterSend_byteSent]

/-- From its first write on, a send puts its frame on the line, in as many turns of the environment as it has
interleaving points; then `LNK.SEND` answers, or `LNK.SYNC` goes on. -/
theorem resume_send (hc : s.ctl = .run (firstWrite c s)) (ho : s.opened = true) (hb : Harmless s)
    (h : sent c (afterSend (sendTurns s) (frameToSend s) s) = .next t) : resume s = resume t := by
  by_cases hd : s.txdly = 0
  · rw [firstWrite_of_txdly_zero hd] at hc
    rw [sendTurns, if_pos hd] at h
    have hwritten : Harmless (setCtl (.run (.flush c)) (pipeWrite (frameToSend s) (turned s))) := hb.turned
    rw [resume_at_write hc ho hb.calm]
    refine resume_at_flush rfl (by simpa using ho) hwritten.calm ?_
    rwa [afterSend_setCtl, sent_setCtl, afterSend_pipeWrite, afterSend_turned, List.append_nil]
  · rw [firstWrite_of_txdly_ne_zero hd] at hc
    rw [sendTurns, if_neg hd] at h
    exact resume_bytes (n := s.plen.toNat + 5) hc ho hb (Nat.zero_add _) rfl h

/-- The frame of a send is on the line, and the generator, the counter and the buffer are as the send leaves them. -/
abbrev onTheLine (b : List Byte) (s : State) : State := afterSend (sendTurns s) b (prepared b s)

/-- A whole send (42_link.md R112): with its frame on the line, `LNK.SEND` answers, or `LNK.SYNC` goes on. -/
theorem startSend_open (hf : sendFrame s = some b) (hw : buffersWf s = true) (ho : s.opened = true) (hb : Harmless s)
    (h : sent c (onTheLine b s) = .next t) : startSend c s = resume t := by
  have hframe : frameToSend (setCtl (.run (firstWrite c s)) (prepared b s)) = b := frameToSend_prepared hf hw
  rw [startSend_of_sendFrame hf]
  refine resume_send rfl ho hb ?_
  rw [hframe, afterSend_setCtl, sent_setCtl]
  exact h

end

/-- Settles O38: the send ends with the flush that puts the last of its frame on the line. -/
theorem sendPutsTheFrameOnTheLine : Obligations.SendPutsTheFrameOnTheLine := by
  refine ⟨decode_eq_ok_iff.mpr rfl, fun s b ho hb _ hw hf => ?_⟩
  have hsend : startSend .own s = resume (respond .ok 0 (onTheLine b s)) := startSend_open hf hw ho hb.harmless rfl
  exact ⟨respond .ok 0 (onTheLine b s), hsend.trans (resume_of_idle rfl), rfl, read_fbuf_prepared hw⟩

end Sys2Proof.Machine
end

section
/-!
SUPPORT. Polling (42_link.md R114). A poll that finds a whole frame reads it in the next pass; what it does with the frame
depends on the checksum and the destination only (`gotFrame_damaged`, `gotFrame_foreign`, `gotFrame_for_this_node`).
-/

namespace Sys2Proof.Machine

/-! ### The two passes of a poll -/

section
variable {f : Option Nat} {u : State} {c : Caller} {b rest : List Byte}

theorem atAvail_fails (h : pipeFails f u = true) : atAvail c f u = .next (respond .linkIo 0 u) := by
  rw [atAvail, pipeAvail_eq_none.mpr h]
  rfl

/-- Fewer than `FLEN` bytes are there (42_link.md R114 line 5). -/
theorem atAvail_short (h : pipeFails f u = false) (hl : u.rxq.length < flen u) : atAvail c f u = noFrame c u := by
  rw [atAvail, pipeAvail_eq_some.mpr ⟨h, rfl⟩]
  simp only [Nat.blt_eq.mpr hl]

theorem atAvail_enough (h : pipeFails f u = false) (hl : flen u ≤ u.rxq.length) :
    atAvail c f u = .next (setCtl (.run (.read c)) u) := by
  rw [atAvail, pipeAvail_eq_some.mpr ⟨h, rfl⟩]
  simp only [blt_eq_false.mpr hl, goto]

theorem atRead_frame (h : pipeFails f u = false) (hq : u.rxq = b ++ rest) (hl : b.length = flen u) :
    atRead c f u = gotFrame c b (pipeDrop (flen u) u) := by
  have hle : flen u ≤ u.rxq.length := by simp [hq, hl]
  have htake : u.rxq.take (flen u) = b := by rw [hq, ← hl, List.take_left]
  unfold atRead
  rw [h, blt_eq_false.mpr hle, htake]

end

section
variable {s t : State} {c : Caller} {b rest : List Byte}

/-- `PipeAvail` where the pipe is closed or the environment makes it fail. -/
theorem resume_at_avail_fails (hc : s.ctl = .run (.avail c)) (hr : Ready s)
    (hf : s.opened = false ∨ (nextTurn s).fail ≠ none) : resume s = .next (respond .linkIo 0 (turned s)) := by
  refine resume_ends_at_point hc hr ?_ rfl
  simp only [atPoint, envMoves_ctl, dropTurn_ctl, hc]
  exact atAvail_fails (pipeFails_eq_true.mpr hf)

theorem resume_at_avail_short (hc : s.ctl = .run (.avail c)) (ho : s.opened = true) (hm : Calm s)
    (hl : (turned s).rxq.length < flen s) (h : noFrame c (turned s) = .next t) : resume s = resume t := by
  obtain ⟨hr, hf⟩ := hm
  refine resume_at_point hc hr ?_
  simp only [atPoint, envMoves_ctl, dropTurn_ctl, hc]
  exact (atAvail_short (pipeFails_of_calm ho hf) hl).trans h

theorem resume_at_avail_enough (hc : s.ctl = .run (.avail c)) (ho : s.opened = true) (hm : Calm s)
    (hl : flen s ≤ (turned s).rxq.length) : resume s = resume (setCtl (.run (.read c)) (turned s)) := by
  obtain ⟨hr, hf⟩ := hm
  refine resume_at_point hc hr ?_
  simp only [atPoint, envMoves_ctl, dropTurn_ctl, hc]
  exact atAvail_enough (pipeFails_of_calm ho hf) hl

theorem resume_at_read (hc : s.ctl = .run (.read c)) (ho : s.opened = true) (hm : Calm s)
    (hq : (turned s).rxq = b ++ rest) (hl : b.length = flen s)
    (h : gotFrame c b (pipeDrop (flen (turned s)) (turned s)) = .next t) : resume s = resume t := by
  obtain ⟨hr, hf⟩ := hm
  refine resume_at_point hc hr ?_
  simp only [atPoint, envMoves_ctl, dropTurn_ctl, hc]
  exact (atRead_frame (pipeFails_of_calm ho hf) hq hl).trans h

/-! ### What a poll does with a frame -/

/-- The frame `b` has been taken from `RXQ`, where `rest` stays, and is held in the frame buffer; the generator has run
over its covered bytes (42_link.md R114 lines 6 to 8). -/
def received (b rest : List Byte) (s : State) : State :=
  { s with
    fbuf := Memory.writeAll s.fbuf 0 b, fblen := s.plen + 6, crc := crcAcc (b.take (s.plen.toNat + 4)), rxq := rest }

@[simp] theorem received_laddr (b rest : List Byte) (s : State) : (received b rest s).laddr = s.laddr := rfl
@[simp] theorem received_plen (b rest : List Byte) (s : State) : (received b rest s).plen = s.plen := rfl
@[simp] theorem received_tmo (b rest : List Byte) (s : State) : (received b rest s).tmo = s.tmo := rfl
@[simp] theorem received_opened (b rest : List Byte) (s : State) : (received b rest s).opened = s.opened := rfl
@[simp] theorem received_elapsed (b rest : List Byte) (s : State) : (received b rest s).elapsed = s.elapsed := rfl
@[simp] theorem received_rxq (b rest : List Byte) (s : State) : (received b rest s).rxq = rest := rfl
@[simp] theorem received_txbuf (b rest : List Byte) (s : State) : (received b rest s).txbuf = s.txbuf := rfl
@[simp] theorem received_response (b rest : List Byte) (s : State) : (received b rest s).response = s.response := rfl
@[simp] theorem received_env (b rest : List Byte) (s : State) : (received b rest s).env = s.env := rfl
@[simp] theorem received_params (b rest : List Byte) (s : State) : (received b rest s).params = s.params := rfl
@[simp] theorem received_flen (b rest : List Byte) (s : State) : flen (received b rest s) = flen s := rfl

theorem checkFrame_bufferFrame (hq : s.rxq = b ++ rest) (hl : b.length = flen s) :
    checkFrame b (bufferFrame b (pipeDrop (flen s) s)) = received b rest s := by
  have hdrop : s.rxq.drop (flen s) = rest := by rw [hq, ← hl, List.drop_left]
  rw [checkFrame_eq, coveredBytes_eq, received, ← ofNat_flen, ← hdrop]
  rfl

theorem gotFrame_damaged (hq : s.rxq = b ++ rest) (hl : b.length = flen s)
    (hm : fcsMatches b s.plen.toNat = false) :
    gotFrame c b (pipeDrop (flen s) s) = .next (respond .fcsMismatch 0 (received b rest s)) := by
  unfold gotFrame
  rw [checkFrame_bufferFrame hq hl, pipeDrop_plen, hm]
  rfl

theorem gotFrame_foreign (hq : s.rxq = b ++ rest) (hl : b.length = flen s)
    (hm : fcsMatches b s.plen.toNat = true) (hd : destOf b ≠ s.laddr) :
    gotFrame c b (pipeDrop (flen s) s) = .next (setCtl (.run (.avail c)) (received b rest s)) := by
  unfold gotFrame
  rw [checkFrame_bufferFrame hq hl, pipeDrop_plen, hm, pipeDrop_laddr, beq_eq_false_iff_ne.mpr hd]
  rfl

theorem gotFrame_for_this_node (hq : s.rxq = b ++ rest) (hl : b.length = flen s)
    (hm : fcsMatches b s.plen.toNat = true) (hd : destOf b = s.laddr) :
    gotFrame c b (pipeDrop (flen s) s) = delivered c (deliver b (received b rest s)) := by
  unfold gotFrame
  rw [checkFrame_bufferFrame hq hl, pipeDrop_plen, hm, pipeDrop_laddr, beq_iff_eq.mpr hd]

/-- What a poll does with a frame does not depend on where its control stood. -/
theorem gotFrame_setCtl (c : Caller) (b : List Byte) (x : Control) (s : State) :
    gotFrame c b (setCtl x s) = gotFrame c b s := by
  cases c <;> rfl

/-! ### A quiet environment -/

theorem Quiet.turned_eq (h : Quiet s) : turned s = s := by
  have ht : s.env.turns = [] := by rw [h]
  rw [turned, nextTurn_of_nil ht, envMoves_default, dropTurn_of_nil ht]

/-- The poll of a frame that is waiting, where the environment makes no move. -/
theorem resume_quiet_poll (hc : s.ctl = .run (.avail c)) (ho : s.opened = true) (hquiet : Quiet s)
    (hq : s.rxq = b ++ rest) (hl : b.length = flen s) (h : gotFrame c b (pipeDrop (flen s) s) = .next t) :
    resume s = resume t := by
  have hread : Quiet (setCtl (.run (.read c)) s) := hquiet
  rw [resume_at_avail_enough hc ho hquiet.harmless.calm (by simp [hquiet.turned_eq, hq, hl]), hquiet.turned_eq]
  refine resume_at_read rfl ho hread.harmless.calm (by rwa [hread.turned_eq]) hl ?_
  rw [hread.turned_eq]
  exact (gotFrame_setCtl c b _ (pipeDrop (flen s) s)).trans h

/-! ### `LNK.POLL` -/

/-- `dec` finds a checksum wrong only in a frame of the right length (41_frame_codec.md R92). -/
theorem dec_eq_fcsMismatch_iff {b : List Byte} {plen : Nat} :
    dec b plen = .error .fcsMismatch ↔ b.length = plen + 6 ∧ fcsMatches b plen = false := by
  unfold dec
  rw [frameLen_eq]
  split_ifs with hl hf <;> simp_all

end

/-- The poll of `LNK.POLL` before its first pass: `RXV` has fallen (42_link.md R114 lines 1 to 3). -/
abbrev polling (s : State) : State := accept (.run (.avail .own)) (clearRxv s)

/-- Settles O41: the first pass of a poll ends it. -/
theorem pollWithoutAFrameConsumesNothing : Obligations.PollWithoutAFrameConsumesNothing := by
  refine ⟨decode_eq_ok_iff.mpr rfl, fun s hr => ?_⟩
  rw [← turned_env]
  refine ⟨fun ho hf hl => ?_, fun hf => ?_⟩
  · exact (resume_at_avail_short (s := polling s) rfl ho ⟨hr, hf⟩ hl rfl).trans
      (resume_of_idle rfl)
  · exact resume_at_avail_fails (s := polling s) rfl hr hf

/-- Settles O43: the checksum is tested before the destination. -/
theorem pollStopsAtADamagedFrame : Obligations.PollStopsAtADamagedFrame := by
  intro s b rest ho hquiet hw _ hq hdec
  obtain ⟨-, -, hfbuf⟩ := buffersWf_iff.mp hw
  obtain ⟨hl, hm⟩ := dec_eq_fcsMismatch_iff.mp hdec
  have hpoll : exec .lnkPoll s = resume (respond .fcsMismatch 0 (received b rest (polling s))) :=
    resume_quiet_poll (s := polling s) rfl ho hquiet hq hl (gotFrame_damaged hq hl hm)
  exact ⟨_, hpoll.trans (resume_of_idle rfl), rfl, holds_writeAll hfbuf b⟩

/-- Settles O42: a frame that passes both tests is delivered. -/
theorem pollDeliversAFrameForThisNode : Obligations.PollDeliversAFrameForThisNode := by
  intro s b rest f fcs ho hquiet hw _ hq hdec hda
  obtain ⟨-, hrxpay, hfbuf⟩ := buffersWf_iff.mp hw
  obtain ⟨hl, hm, rfl, rfl⟩ := dec_eq_ok_iff.mp hdec
  have hpoll : exec .lnkPoll s = resume (respond .ok 0 (deliver b (received b rest (polling s)))) :=
    resume_quiet_poll (s := polling s) rfl ho hquiet hq hl
      (gotFrame_for_this_node (c := .own) (s := polling s) hq hl hm hda)
  exact ⟨_, hpoll.trans (resume_of_idle rfl), rfl, holds_writeAll hrxpay _, holds_writeAll hfbuf b⟩

/-- Settles O44: after a frame for another node the poll is back at `PipeAvail`. -/
theorem pollSkipsAFrameForAnotherNode : Obligations.PollSkipsAFrameForAnotherNode := by
  intro s b rest f fcs ho hquiet hq hdec hda
  obtain ⟨hl, hm, rfl, rfl⟩ := dec_eq_ok_iff.mp hdec
  exact resume_quiet_poll (s := polling s) rfl ho hquiet hq hl
    (gotFrame_foreign (c := .own) (s := polling s) hq hl hm hda)

/-! ### A poll that is kept going -/

/-- A `LNK.POLL` at `PipeAvail` with the frame `b` for another node in `RXQ`, in an environment that delivers `b` again
while it is read, `n` times, and is not yet known after that (70_reset_and_hazards.md R171). -/
structure KeptGoing (b : List Byte) (n : Nat) (s : State) : Prop where
  ctl : s.ctl = .run (.avail .own)
  response : s.response = none
  opened : s.opened = true
  unbounded : s.params.rxDepth = none
  rxq : s.rxq = b
  length : b.length = flen s
  fcs : fcsMatches b s.plen.toNat = true
  foreign : destOf b ≠ s.laddr
  env : s.env = { turns := (List.replicate n [{}, { arrive := b }]).flatten, openEnded := true }

/-- The parameters, `PLEN` and `LADDR` are those of `s`. -/
abbrev SameNode (s t : State) : Prop := t.params = s.params ∧ t.plen = s.plen ∧ t.laddr = s.laddr

theorem SameNode.trans {s t u : State} (h : SameNode s t) (h' : SameNode t u) : SameNode s u := by
  obtain ⟨hparams, hplen, hladdr⟩ := h
  obtain ⟨hparams', hplen', hladdr'⟩ := h'
  exact ⟨hparams'.trans hparams, hplen'.trans hplen, hladdr'.trans hladdr⟩

theorem nextTurn_of_cons {s : State} {e : EnvTurn} {es : List EnvTurn} (h : s.env.turns = e :: es) :
    nextTurn s = e := by
  simp [nextTurn, h]

theorem calm_of_cons {s : State} {e : EnvTurn} {es : List EnvTurn} (h : s.env.turns = e :: es)
    (hd : s.params.rxDepth = none) (hf : e.fail = none) (hr : e.resetInput = false) : Calm s := by
  have hn := nextTurn_of_cons h
  exact ⟨⟨by simp [held, h], rxFits_of_unbounded hd _, hn ▸ hr⟩, hn ▸ hf⟩

/-- The poll has found the frame and is about to read it. -/
def frameFound (s : State) : State := setCtl (.run (.read .own)) (turned s)

/-- The poll has skipped the frame, which has arrived again while it was read. -/
def frameSkipped (b : List Byte) (s : State) : State :=
  setCtl (.run (.avail .own)) (received b b (turned (frameFound s)))

theorem sameNode_frameSkipped (b : List Byte) (s : State) : SameNode s (frameSkipped b s) := by
  simp [SameNode, frameSkipped, frameFound]

theorem KeptGoing.turns {b : List Byte} {n : Nat} {s : State} (h : KeptGoing b (n + 1) s) :
    s.env.turns = {} :: { arrive := b } :: (List.replicate n [{}, { arrive := b }]).flatten := by
  rw [h.env, List.replicate_succ, List.flatten_cons]
  rfl

/-- One lap: the frame is found and read, and while it is read it arrives again. -/
theorem KeptGoing.resume_lap {b : List Byte} {n : Nat} {s : State} (h : KeptGoing b (n + 1) s) :
    resume s = resume (frameSkipped b s) := by
  have hfound : (turned s).rxq = b := by simp [nextTurn_of_cons h.turns, h.rxq]
  have hturns : (frameFound s).env.turns = { arrive := b } :: (List.replicate n [{}, { arrive := b }]).flatten := by
    simp [frameFound, h.turns]
  have hcalm : Calm (frameFound s) := calm_of_cons hturns (by simpa [frameFound] using h.unbounded) rfl rfl
  have hagain : (turned (frameFound s)).rxq = b ++ b := by
    rw [envMoves_rxq, nextTurn_of_cons hturns, dropTurn_rxq, frameFound, setCtl_rxq, hfound]
  have hlen : b.length = flen (frameFound s) := by simpa [frameFound] using h.length
  calc resume s
    _ = resume (frameFound s) := resume_at_avail_enough h.ctl h.opened
      (calm_of_cons h.turns h.unbounded rfl rfl) (by rw [hfound, h.length])
    _ = resume (frameSkipped b s) :=
      resume_at_read rfl (by simpa [frameFound] using h.opened) hcalm hagain hlen
        (gotFrame_foreign hagain hlen (by simpa [frameFound] using h.fcs) (by simpa [frameFound] using h.foreign))

theorem KeptGoing.lap {b : List Byte} {n : Nat} {s : State} (h : KeptGoing b (n + 1) s) :
    KeptGoing b n (frameSkipped b s) where
  ctl := rfl
  response := by simpa [frameSkipped, frameFound] using h.response
  opened := by simpa [frameSkipped, frameFound] using h.opened
  unbounded := by simpa [frameSkipped, frameFound] using h.unbounded
  rxq := rfl
  length := by simpa [frameSkipped, frameFound] using h.length
  fcs := by simpa [frameSkipped, frameFound] using h.fcs
  foreign := by simpa [frameSkipped, frameFound] using h.foreign
  env := by simp [frameSkipped, frameFound, h.env, List.replicate_succ]

/-- All the laps, and then the environment is not known. -/
theorem KeptGoing.laps {b : List Byte} {n : Nat} {s : State} (h : KeptGoing b n s) :
    ∃ t, resume s = .next t ∧ KeptGoing b 0 t ∧ SameNode s t := by
  induction n generalizing s with
  | zero => exact ⟨s, resume_of_stopped (by simp [canAdvance, held, h.env]), h, rfl, rfl, rfl⟩
  | succ n ih =>
    obtain ⟨t, ht, hdone, hsame⟩ := ih h.lap
    exact ⟨t, h.resume_lap.trans ht, hdone, (sameNode_frameSkipped b s).trans hsame⟩

/-- Settles O45, by induction on the number of laps (`KeptGoing.laps`). -/
theorem pollCanBeKeptGoingForEver : Obligations.PollCanBeKeptGoingForEver := by
  intro n s b f fcs hc hresp ho hd hq hdec hda henv
  obtain ⟨hl, hm, rfl, -⟩ := dec_eq_ok_iff.mp hdec
  obtain ⟨t, ht, hdone, hparams, hplen, hladdr⟩ := KeptGoing.laps ⟨hc, hresp, ho, hd, hq, hl, hm, hda, henv⟩
  exact ⟨t, (step_of_busy (by simp [hc])).trans ht, hdone.ctl, hdone.response, hdone.opened, hparams, hdone.rxq,
    hplen, hladdr, hdone.env⟩

end Sys2Proof.Machine
end

section
/-!
SUPPORT. `LNK.SYNC` (42_link.md R115, R116): a send, then polls with a wait between two of them. One poll that finds too
few bytes and the wait after it are one lemma (`resume_wait`); a wait is counted in `ELAPSED`, and the number of waits that
are left decides when the command times out (`resume_until_timeout`).
-/

namespace Sys2Proof.Machine

section
variable {s t : State} {b rest : List Byte}

/-! ### The send of a request -/

theorem sent_sync_of_no_reqAck (h : reqAck s.txfc = false) : sent .sync s = .next (respond .ok 0 s) := by
  simp only [sent, h]

theorem sent_sync_of_reqAck (h : reqAck s.txfc = true) : sent .sync s = .next (setCtl (.run (.avail .sync)) s) := by
  simp only [sent, h, goto]

/-- The request of `LNK.SYNC` is on the line, no byte has come meanwhile, and the first poll comes next (42_link.md R115
lines 1 to 4). -/
def requested (b : List Byte) (s : State) : State :=
  { prepared b (startSync s) with
    wire := s.wire ++ s.txbuf ++ b, txbuf := [], env := envAfter (sendTurns s) s, ctl := .run (.avail .sync) }

theorem exec_lnkSync_requests (hf : sendFrame s = some b) (hw : buffersWf s = true) (ho : s.opened = true)
    (hs : Harmless s) (ha : reqAck s.txfc = true) (hnone : arrivedIn (sendTurns s) s = []) :
    exec .lnkSync s = resume (requested b s) := by
  have hsent : setCtl (.run (.avail .sync)) (onTheLine b (startSync s)) = requested b s := by
    have hrxq : s.rxq ++ arrivedIn (sendTurns s) s = s.rxq := by rw [hnone, List.append_nil]
    exact congrArg (fun q => { requested b s with rxq := q }) hrxq
  rw [← hsent]
  exact startSend_open (s := startSync s) hf hw ho hs (sent_sync_of_reqAck ha)

/-! ### A poll without a reply, and a wait -/

theorem noReply_waits (h : s.elapsed.toNat ≤ s.tmo.toNat) : noReply s = .next (setCtl (.wait .poll) s) := by
  rw [noReply, blt_eq_false.mpr h]
  rfl

theorem noReply_timeout (h : s.tmo.toNat < s.elapsed.toNat) : noReply s = .next (respond .linkTimeout 0 s) := by
  rw [noReply, Nat.blt_eq.mpr h]
  rfl

/-- The wait of `LNK.SYNC` is counted when it is over (42_link.md R115 line 8). -/
theorem resume_at_poll_wait (hc : s.ctl = .wait .poll) (ht : s.elapsed.toNat ≤ s.tmo.toNat) (hr : Ready s) :
    resume s = resume (setCtl (.run (.avail .sync)) (countWait (turned s))) :=
  resume_of_ready (by simp [hc]) (fun _ => ht) hr (by simp [atPoint, hc, afterPoll, goto])

/-- With nothing left to drain, a turn of the environment only brings bytes. -/
theorem turned_of_txbuf_nil (h : s.txbuf = []) :
    turned s = { s with rxq := s.rxq ++ (nextTurn s).arrive, env := envAfter 1 s } := by
  simp only [turned, envMoves, dropTurn, h, List.take_nil, List.drop_nil, List.append_nil, envAfter, List.drop_one]

/-- The state after one wait of `LNK.SYNC`, counted, with the bytes that came since the poll before it. -/
def waitedOnce (s : State) : State :=
  { s with rxq := s.rxq ++ arrivedIn 2 s, elapsed := s.elapsed + 10, env := envAfter 2 s }

theorem arrivedIn_two (s : State) : arrivedIn 2 s = (nextTurn s).arrive ++ (nextTurn (turned s)).arrive := by
  rw [arrivedIn_succ, arrivedIn_succ]
  simp [arrivedIn]

theorem countWait_turned_turned (h : s.txbuf = []) : countWait (turned (turned s)) = waitedOnce s := by
  have h' : (turned s).txbuf = [] := by simp [h]
  rw [turned_of_txbuf_nil h', envAfter_turned, waitedOnce, arrivedIn_two, ← List.append_assoc,
    turned_of_txbuf_nil h]
  rfl

theorem countWait_setCtl (x y : Control) (s : State) :
    setCtl y (countWait (setCtl x s)) = setCtl y (countWait s) := rfl

theorem setCtl_of_ctl {x : Control} (h : s.ctl = x) : setCtl x s = s := by
  rw [← h]
  rfl

/-- A poll that finds too few bytes, and the wait after it (42_link.md R115 lines 5 to 8). -/
theorem resume_wait (hc : s.ctl = .run (.avail .sync)) (ho : s.opened = true) (htx : s.txbuf = [])
    (hm : Calm s) (hl : (turned s).rxq.length < flen s) (ht : s.elapsed.toNat ≤ s.tmo.toNat)
    (hr : Ready (turned s)) : resume s = resume (waitedOnce s) := by
  have hwaits : noFrame .sync (turned s) = .next (setCtl (.wait .poll) (turned s)) := noReply_waits ht
  rw [resume_at_avail_short hc ho hm hl hwaits,
    resume_at_poll_wait (s := setCtl (.wait .poll) (turned s)) rfl ht hr, turned_setCtl,
    countWait_setCtl, countWait_turned_turned htx, setCtl_of_ctl (s := waitedOnce s) hc]

/-- A poll that finds too few bytes when the time waited is beyond `TMO` (42_link.md R115 line 7). -/
theorem resume_timeout (hc : s.ctl = .run (.avail .sync)) (ho : s.opened = true) (htx : s.txbuf = [])
    (hm : Calm s) (hl : (turned s).rxq.length < flen s) (ht : s.tmo.toNat < s.elapsed.toNat) :
    resume s = .next (respond .linkTimeout 0 { s with rxq := s.rxq ++ (nextTurn s).arrive, env := envAfter 1 s }) := by
  have htimeout : noFrame .sync (turned s) = .next (respond .linkTimeout 0 (turned s)) := noReply_timeout ht
  rw [resume_at_avail_short hc ho hm hl htimeout, turned_of_txbuf_nil htx]
  exact resume_of_idle rfl

/-! ### Waiting while no byte comes -/

/-- All of the environment is known, and in its next `k` turns nothing comes and nothing goes wrong. -/
abbrev SilentFor (k : Nat) (s : State) : Prop :=
  s.env.openEnded = false ∧ ∀ e ∈ s.env.turns.take k, e.arrive = [] ∧ e.fail = none ∧ e.resetInput = false

theorem SilentFor.mono {k m : Nat} (h : SilentFor m s) (hk : k ≤ m) : SilentFor k s :=
  ⟨h.1, fun e he => h.2 e (List.take_subset_take_left _ hk he)⟩

theorem SilentFor.nextTurn {k : Nat} (h : SilentFor (k + 1) s) :
    (nextTurn s).arrive = [] ∧ (nextTurn s).fail = none ∧ (nextTurn s).resetInput = false := by
  obtain ⟨-, hturns⟩ := h
  cases he : s.env.turns with
  | nil => simp [Machine.nextTurn, he]
  | cons e es =>
    rw [nextTurn_of_cons he]
    exact hturns e (by simp [he])

theorem SilentFor.calm {k : Nat} (h : SilentFor (k + 1) s) : Calm s := by
  obtain ⟨harrive, hfail, hreset⟩ := h.nextTurn
  exact ⟨⟨by simp [held, h.1], by simp [rxFits, harrive], hreset⟩, hfail⟩

theorem SilentFor.turned {k : Nat} (h : SilentFor (k + 1) s) : SilentFor k (turned s) := by
  obtain ⟨hopen, hturns⟩ := h
  refine ⟨hopen, fun e he => hturns e ?_⟩
  cases hs : s.env.turns with
  | nil => simp [hs] at he
  | cons e' es =>
    rw [List.take_succ_cons]
    exact List.mem_cons_of_mem e' (by simpa [hs] using he)

/-- The state after `j` waits in which no byte came. -/
def waited (j : Nat) (s : State) : State :=
  { s with elapsed := s.elapsed + BitVec.ofNat 17 (10 * j), env := envAfter (2 * j) s }

theorem waited_zero (s : State) : waited 0 s = s := by
  simp [waited, envAfter]

theorem waited_succ (j : Nat) (s : State) : waited j (waited 1 s) = waited (j + 1) s := by
  have helapsed : s.elapsed + BitVec.ofNat 17 (10 * 1) + BitVec.ofNat 17 (10 * j) =
      s.elapsed + BitVec.ofNat 17 (10 * (j + 1)) := by
    rw [BitVec.add_assoc, ← BitVec.ofNat_add, ← Nat.mul_add, Nat.add_comm 1 j]
  have henv : envAfter (2 * j) (waited 1 s) = envAfter (2 * (j + 1)) s := by
    simp [envAfter, waited, Nat.mul_add, Nat.add_comm]
  exact congrArg₂ (fun e v => { s with elapsed := e, env := v }) helapsed henv

/-- The time waited stays within its register (10_state.md R21). -/
theorem toNat_elapsed_waited {j : Nat} (h : s.elapsed.toNat + 10 * j ≤ s.tmo.toNat + 10) :
    (waited j s).elapsed.toNat = s.elapsed.toNat + 10 * j := by
  have htmo := s.tmo.isLt
  rw [waited, BitVec.toNat_add, BitVec.toNat_ofNat]
  omega

theorem SilentFor.arrivedIn_two (h : SilentFor 2 s) : arrivedIn 2 s = [] := by
  obtain ⟨hfirst, -⟩ := h.nextTurn
  obtain ⟨hsecond, -⟩ := h.turned.nextTurn
  rw [arrivedIn_succ, arrivedIn_succ, hfirst, hsecond]
  rfl

theorem SilentFor.waitedOnce (h : SilentFor 2 s) : waitedOnce s = waited 1 s := by
  simp [Machine.waitedOnce, waited, h.arrivedIn_two]

theorem SilentFor.waited {j k : Nat} (h : SilentFor (2 * j + k) s) : SilentFor k (waited j s) := by
  obtain ⟨hopen, hturns⟩ := h
  refine ⟨hopen, fun e he => hturns e ?_⟩
  rw [List.take_add]
  exact List.mem_append_right _ he

/-- `j` waits in which no byte comes, while the time waited allows them. -/
theorem resume_waits {j : Nat} (hc : s.ctl = .run (.avail .sync)) (ho : s.opened = true) (htx : s.txbuf = [])
    (hs : SilentFor (2 * j) s) (hl : s.rxq.length < flen s) (ht : s.elapsed.toNat + 10 * j ≤ s.tmo.toNat + 10) :
    resume s = resume (waited j s) := by
  induction j generalizing s with
  | zero => rw [waited_zero]
  | succ j ih =>
    have hfirst : SilentFor 2 s := hs.mono (by omega)
    have hrest : SilentFor (2 * j) (waited 1 s) := SilentFor.waited (hs.mono (by omega))
    have hshort : (turned s).rxq.length < flen s := by simpa [hfirst.nextTurn.1] using hl
    have helapsed := toNat_elapsed_waited (j := 1) (s := s) (by omega)
    have hnext : (waited 1 s).elapsed.toNat + 10 * j ≤ s.tmo.toNat + 10 := by omega
    calc resume s
      _ = resume (waited 1 s) := by
        rw [resume_wait hc ho htx hfirst.calm hshort (by omega) hfirst.turned.calm.1, hfirst.waitedOnce]
      _ = resume (waited j (waited 1 s)) := ih hc ho htx hrest hl hnext
      _ = resume (waited (j + 1) s) := by rw [waited_succ]

/-- Where no byte comes, `LNK.SYNC` waits `j` times more, until the time waited is beyond `TMO`, and times out
(42_link.md R115 lines 5 to 9). -/
theorem resume_until_timeout {j : Nat} (hc : s.ctl = .run (.avail .sync)) (ho : s.opened = true) (htx : s.txbuf = [])
    (hs : SilentFor (2 * j + 1) s) (hl : s.rxq.length < flen s)
    (hle : s.elapsed.toNat + 10 * j ≤ s.tmo.toNat + 10) (hlt : s.tmo.toNat < s.elapsed.toNat + 10 * j) :
    resume s = .next (respond .linkTimeout 0
      { s with elapsed := s.elapsed + BitVec.ofNat 17 (10 * j), env := envAfter (2 * j + 1) s }) := by
  have hlast : SilentFor 1 (waited j s) := hs.waited
  obtain ⟨hnone, -⟩ := hlast.nextTurn
  have henv : envAfter 1 (waited j s) = envAfter (2 * j + 1) s := by simp [envAfter, waited]
  have hshort : (turned (waited j s)).rxq.length < flen s := by
    rwa [envMoves_rxq, hnone, List.append_nil]
  have hlate : s.tmo.toNat < (waited j s).elapsed.toNat := by rwa [toNat_elapsed_waited hle]
  rw [resume_waits hc ho htx (hs.mono (Nat.le_succ _)) hl hle,
    resume_timeout (s := waited j s) hc ho htx hlast.calm hshort hlate, hnone, List.append_nil, henv]
  rfl

end

/-! ### `LNK.SYNC` without a reply -/

theorem arrivedIn_of_silent {s : State} (h : ∀ e ∈ s.env.turns, e.arrive = []) (k : Nat) : arrivedIn k s = [] := by
  simp only [arrivedIn, List.flatten_eq_nil_iff, List.mem_map]
  rintro _ ⟨e, he, rfl⟩
  exact h e (List.mem_of_mem_take he)

/-- Settles O46: the send of `LNK.SYNC`, which answers where that of `LNK.SEND` does. -/
theorem syncWithoutReqAckOnlySends : Obligations.SyncWithoutReqAckOnlySends := by
  refine ⟨decode_eq_ok_iff.mpr rfl, fun s b ho hb _ hw hf ha => ?_⟩
  have hsend : exec .lnkSync s = resume (respond .ok 0 (onTheLine b (startSync s))) :=
    startSend_open (s := startSync s) hf hw ho hb.harmless (sent_sync_of_no_reqAck ha)
  exact ⟨_, hsend.trans (resume_of_idle rfl), rfl, read_fbuf_prepared hw⟩

theorem envAfter_requested (b : List Byte) (k : Nat) (s : State) :
    envAfter k (requested b s) = envAfter (sendTurns s + k) s := by
  simp [envAfter, requested]

/-- No time has been waited before the first poll (42_link.md R115 line 1). -/
theorem elapsed_requested (b : List Byte) (s : State) (x : BitVec 17) : (requested b s).elapsed + x = x :=
  BitVec.zero_add x

/-- Settles O47: after the send, `TMO div 10 + 1` waits, and the last poll. -/
theorem syncTimesOut : Obligations.SyncTimesOut := by
  intro s b ho hb hsilent _ hw hf ha hl
  have hharmless : Harmless s := hb.harmless
  obtain ⟨hturns, hopen, -⟩ := hb
  have hsilent' : SilentFor (2 * (s.tmo.toNat / 10 + 1) + 1) (requested b s) := by
    refine ⟨hopen, fun e he => ?_⟩
    have hmem : e ∈ s.env.turns := List.mem_of_mem_drop (List.mem_of_mem_take he)
    exact ⟨hsilent e hmem, hturns e hmem⟩
  have htimeout := resume_until_timeout (s := requested b s) rfl ho rfl hsilent' hl
    (show 0 + 10 * (s.tmo.toNat / 10 + 1) ≤ s.tmo.toNat + 10 by omega)
    (show s.tmo.toNat < 0 + 10 * (s.tmo.toNat / 10 + 1) by omega)
  have hpolls : sendTurns s + (2 * (s.tmo.toNat / 10 + 1) + 1) =
      sendTurns s + (s.tmo.toNat / 10 + 2) + (s.tmo.toNat / 10 + 1) := by omega
  rw [envAfter_requested, hpolls, elapsed_requested] at htimeout
  exact ⟨_, (exec_lnkSync_requests hf hw ho hharmless ha (arrivedIn_of_silent hsilent _)).trans htimeout, rfl,
    read_fbuf_prepared hw⟩

/-! ### `LNK.SYNC` with a reply -/

section
variable {s : State} {b rest : List Byte} {f : Frame} {fcs : Half}

theorem isReply_iff : isReply s = true ↔ s.params.replyMatch = .any ∨ s.rxseq = s.txseq := by
  cases h : s.params.replyMatch <;> simp [isReply, h]

/-- A waiting frame for this node that is a reply ends the command (42_link.md R115 line 6, R116). -/
theorem resume_reply (hc : s.ctl = .run (.avail .sync)) (ho : s.opened = true) (hquiet : Quiet s)
    (hq : s.rxq = b ++ rest) (hdec : dec b s.plen.toNat = .ok (f, fcs)) (hda : f.da = s.laddr)
    (hreply : s.params.replyMatch = .any ∨ f.seq = s.txseq) :
    resume s = .next (respond .ok 1 (deliver b (received b rest s))) := by
  obtain ⟨hl, hm, rfl, -⟩ := dec_eq_ok_iff.mp hdec
  have hr : isReply (deliver b (received b rest s)) = true := isReply_iff.mpr hreply
  have hends : delivered .sync (deliver b (received b rest s)) =
      .next (respond .ok 1 (deliver b (received b rest s))) := by
    simp only [delivered, hr]
  rw [resume_quiet_poll hc ho hquiet hq hl ((gotFrame_for_this_node hq hl hm hda).trans hends)]
  exact resume_of_idle rfl

/-- The frame `b` has been delivered and dropped, the wait after it is counted, and the next poll comes. -/
def dropped (b rest : List Byte) (s : State) : State :=
  setCtl (.run (.avail .sync)) (countWait (clearRxv (deliver b (received b rest s))))

@[simp] theorem dropped_tmo (b rest : List Byte) (s : State) : (dropped b rest s).tmo = s.tmo := by simp [dropped]
@[simp] theorem dropped_opened (b rest : List Byte) (s : State) : (dropped b rest s).opened = s.opened := by
  simp [dropped]
@[simp] theorem dropped_elapsed (b rest : List Byte) (s : State) :
    (dropped b rest s).elapsed = s.elapsed + pollInterval := by simp [dropped]
@[simp] theorem dropped_txbuf (b rest : List Byte) (s : State) : (dropped b rest s).txbuf = s.txbuf := by
  simp [dropped]
@[simp] theorem dropped_rxq (b rest : List Byte) (s : State) : (dropped b rest s).rxq = rest := by simp [dropped]
@[simp] theorem dropped_env (b rest : List Byte) (s : State) : (dropped b rest s).env = s.env := by simp [dropped]

/-- A waiting frame for this node that is no reply is dropped, and the wait goes on (42_link.md R116). -/
theorem resume_dropped (hc : s.ctl = .run (.avail .sync)) (ho : s.opened = true) (hquiet : Quiet s)
    (hq : s.rxq = b ++ rest) (hdec : dec b s.plen.toNat = .ok (f, fcs)) (hda : f.da = s.laddr)
    (hmatch : s.params.replyMatch = .seq) (hseq : f.seq ≠ s.txseq) (ht : s.elapsed.toNat ≤ s.tmo.toNat) :
    resume s = resume (dropped b rest s) := by
  obtain ⟨hl, hm, rfl, -⟩ := dec_eq_ok_iff.mp hdec
  have hr : isReply (deliver b (received b rest s)) = false := by
    rw [Bool.eq_false_iff, ne_eq, isReply_iff, not_or]
    exact ⟨by simp [hmatch], hseq⟩
  have hwaits : delivered .sync (deliver b (received b rest s)) =
      .next (setCtl (.wait .poll) (clearRxv (deliver b (received b rest s)))) := by
    simp only [delivered, hr]
    exact noReply_waits ht
  have hquiet' : Quiet (setCtl (.wait .poll) (clearRxv (deliver b (received b rest s)))) := hquiet
  rw [resume_quiet_poll hc ho hquiet hq hl ((gotFrame_for_this_node hq hl hm hda).trans hwaits),
    resume_at_poll_wait rfl (by simpa using ht) hquiet'.harmless.calm.1, hquiet'.turned_eq, countWait_setCtl]
  rfl

theorem Quiet.envAfter (h : Quiet s) (k : Nat) : envAfter k s = s.env := by
  simp [Machine.envAfter, h]

theorem Quiet.arrive (h : Quiet s) : ∀ e ∈ s.env.turns, e.arrive = [] := by
  simp [h]

theorem Quiet.silentFor (h : Quiet s) (k : Nat) : SilentFor k s := by
  simp [SilentFor, h]

/-- A frame of the dropped kind is all that ever comes: the wait goes on to the timeout (42_link.md R116). -/
theorem resume_dropped_timeout (hc : s.ctl = .run (.avail .sync)) (ho : s.opened = true) (htx : s.txbuf = [])
    (he : s.elapsed = 0) (hquiet : Quiet s) (hq : s.rxq = b) (hdec : dec b s.plen.toNat = .ok (f, fcs))
    (hda : f.da = s.laddr) (hmatch : s.params.replyMatch = .seq) (hseq : f.seq ≠ s.txseq) :
    resume s = .next (respond .linkTimeout 0 { clearRxv (deliver b (received b [] s)) with
      elapsed := BitVec.ofNat 17 (10 * (s.tmo.toNat / 10 + 1)) }) := by
  have hquiet' : Quiet (dropped b [] s) := by simpa [Quiet] using hquiet
  have helapsed : (dropped b [] s).elapsed = 10 := by simp [pollInterval, he]
  have hten : (dropped b [] s).elapsed.toNat = 10 := congrArg BitVec.toNat helapsed
  have hwaited : (10 : BitVec 17) + BitVec.ofNat 17 (10 * (s.tmo.toNat / 10)) =
      BitVec.ofNat 17 (10 * (s.tmo.toNat / 10 + 1)) := by
    rw [Nat.mul_add, Nat.add_comm, BitVec.ofNat_add]
    rfl
  have htimeout := resume_until_timeout (j := s.tmo.toNat / 10) rfl (by simpa using ho) (by simpa using htx)
    (hquiet'.silentFor _) (by simpa using flen_pos _) (by rw [hten, dropped_tmo]; omega)
    (by rw [hten, dropped_tmo]; omega)
  rw [helapsed, hwaited, hquiet'.envAfter] at htimeout
  rw [resume_dropped hc ho hquiet (hq.trans (List.append_nil b).symm) hdec hda hmatch hseq (by simp [he]), htimeout]
  rfl

/-- A reply that arrives whole during the next wait. -/
theorem resume_reply_in_wait (hc : s.ctl = .run (.avail .sync)) (ho : s.opened = true) (htx : s.txbuf = [])
    (hd : s.params.rxDepth = none) (hq : s.rxq = [])
    (henv : s.env = { turns := [{}, { arrive := b }], openEnded := false }) (ht : s.elapsed.toNat ≤ s.tmo.toNat)
    (hdec : dec b s.plen.toNat = .ok (f, fcs)) (hda : f.da = s.laddr)
    (hreply : s.params.replyMatch = .any ∨ f.seq = s.txseq) :
    resume s = .next (respond .ok 1 (deliver b (received b []
      { s with elapsed := s.elapsed + 10, env := { turns := [], openEnded := false } }))) := by
  have hturns : s.env.turns = [{}, { arrive := b }] := by rw [henv]
  have hlater : (turned s).env.turns = [{ arrive := b }] := by simp [hturns]
  have hshort : (turned s).rxq.length < flen s := by simp [nextTurn_of_cons hturns, hq, flen_pos]
  have hwaited : waitedOnce s =
      { s with rxq := b, elapsed := s.elapsed + 10, env := { turns := [], openEnded := false } } := by
    simp [waitedOnce, hq, arrivedIn, envAfter, henv]
  have harrived : (waitedOnce s).rxq = b ++ [] := by simp [hwaited]
  have hquiet : Quiet (waitedOnce s) := by simp [Quiet, hwaited]
  rw [resume_wait hc ho htx (calm_of_cons hturns hd rfl rfl) hshort ht (calm_of_cons hlater hd rfl rfl).1,
    resume_reply (s := waitedOnce s) hc ho hquiet harrived hdec hda hreply, hwaited]
  rfl

/-- A frame read into the frame buffer after one that was sent covers it, as both are `FLEN` bytes long. -/
theorem holds_received_requested {sentFrame : List Byte} (hf : sendFrame s = some sentFrame)
    (hplen : s.plen.toNat ≤ 249) (hw : buffersWf s = true) (hl : b.length = s.plen.toNat + 6) :
    Holds (Memory.writeAll (requested sentFrame s).fbuf 0 b) b s.fbuf := by
  obtain ⟨-, -, hfbuf⟩ := buffersWf_iff.mp hw
  have hlen : sentFrame.length = b.length := (length_of_sendFrame hf).trans hl.symm
  have hsize : sentFrame.length ≤ 255 := by omega
  have hsent : Memory.wf Config.frameBufferSize (requested sentFrame s).fbuf = true :=
    Memory.wf_writeAll hfbuf (by rwa [Nat.zero_add])
  intro j
  rw [holds_writeAll hsent b j]
  split
  · rfl
  · exact (holds_writeAll hfbuf sentFrame j).trans (if_neg (by omega))

end

/-- Settles O48: the first poll finds the reply. -/
theorem syncTakesAWaitingFrameAsTheReply : Obligations.SyncTakesAWaitingFrameAsTheReply := by
  intro s sentFrame b rest f fcs ho hquiet hplen hw hf ha hq hdec hda hreply
  obtain ⟨hl, -, rfl, rfl⟩ := dec_eq_ok_iff.mp hdec
  obtain ⟨-, hrxpay, -⟩ := buffersWf_iff.mp hw
  have hquiet' : Quiet (requested sentFrame s) := (hquiet.envAfter _).trans hquiet
  have hend := resume_reply (s := requested sentFrame s) rfl ho hquiet' hq hdec hda hreply
  refine ⟨_, (exec_lnkSync_requests hf hw ho hquiet.harmless ha (arrivedIn_of_silent hquiet.arrive _)).trans hend, ?_,
    holds_writeAll hrxpay _, holds_received_requested hf hplen hw hl⟩
  simp only [respond, deliver, received, requested, prepared, startSync, hquiet.envAfter, unpackFrame]

/-- Settles O50: the frame is dropped by the first poll, and after `TMO div 10 + 1` waits nothing more has come. -/
theorem seqMatchDropsAnotherReply : Obligations.SeqMatchDropsAnotherReply := by
  intro s sentFrame b f fcs ho hquiet hplen hw hf ha hq hdec hda hmatch hseq
  obtain ⟨hl, -, rfl, rfl⟩ := dec_eq_ok_iff.mp hdec
  obtain ⟨-, hrxpay, -⟩ := buffersWf_iff.mp hw
  have hquiet' : Quiet (requested sentFrame s) := (hquiet.envAfter _).trans hquiet
  have hend := resume_dropped_timeout (s := requested sentFrame s) rfl ho rfl rfl hquiet' hq hdec hda hmatch hseq
  refine ⟨_, (exec_lnkSync_requests hf hw ho hquiet.harmless ha (arrivedIn_of_silent hquiet.arrive _)).trans hend, ?_,
    holds_writeAll hrxpay _, holds_received_requested hf hplen hw hl⟩
  simp only [respond, clearRxv, deliver, received, requested, prepared, startSync, hquiet.envAfter, unpackFrame]

section
variable {s : State} {sentFrame b : List Byte} {j : Nat}

/-- The turns that are left for the waits, where the whole frame was sent in the first two. -/
theorem requested_env (hdly : s.txdly = 0)
    (henv : s.env = { turns := List.replicate (2 * (j + 1) + 1) {} ++ [{ arrive := b }], openEnded := false }) :
    (requested sentFrame s).env =
      { turns := List.replicate (2 * j) {} ++ [{}, { arrive := b }], openEnded := false } := by
  have hcount : 2 * (j + 1) + 1 = 2 * j + 1 + 1 + 1 := by omega
  have hlast := List.replicate_succ' (n := 2 * j) (a := ({} : EnvTurn))
  simp only [requested, envAfter, sendTurns, if_pos hdly, henv, hcount, List.replicate_succ (n := 2 * j + 1 + 1),
    List.replicate_succ (n := 2 * j + 1), hlast, List.cons_append, List.drop_succ_cons, List.drop_zero,
    List.append_assoc, List.nil_append]

theorem arrivedIn_send (hdly : s.txdly = 0)
    (henv : s.env = { turns := List.replicate (2 * (j + 1) + 1) {} ++ [{ arrive := b }], openEnded := false }) :
    arrivedIn (sendTurns s) s = [] := by
  simp [arrivedIn, sendTurns, hdly, henv, Nat.mul_add, List.replicate_succ]

theorem harmless_of_late_reply {n : Nat} (hd : s.params.rxDepth = none)
    (henv : s.env = { turns := List.replicate n {} ++ [{ arrive := b }], openEnded := false }) : Harmless s := by
  refine ⟨fun e he => ?_, by rw [henv]⟩
  rw [henv, List.mem_append, List.mem_singleton] at he
  obtain he | rfl := he
  · rw [List.eq_of_mem_replicate he]
    exact ⟨.inl rfl, rfl, rfl⟩
  · exact ⟨.inr hd, rfl, rfl⟩

theorem silentFor_of_env {es : List EnvTurn}
    (henv : s.env = { turns := List.replicate j {} ++ es, openEnded := false }) : SilentFor j s := by
  refine ⟨by rw [henv], fun e he => ?_⟩
  rw [henv, List.take_left' List.length_replicate] at he
  rw [List.eq_of_mem_replicate he]
  exact ⟨rfl, rfl, rfl⟩

end

/-- Settles O49: `k - 1` waits in which nothing comes, and the one in which the reply arrives. -/
theorem syncReturnsAReplyOfTheKthWait : Obligations.SyncReturnsAReplyOfTheKthWait := by
  intro s k sentFrame b f fcs ho hd hdly hplen hw hf ha hq hk hk' henv hdec hda hreply
  obtain ⟨j, rfl⟩ : ∃ j, k = j + 1 := ⟨k - 1, by omega⟩
  obtain ⟨hl, -, rfl, rfl⟩ := dec_eq_ok_iff.mp hdec
  obtain ⟨-, hrxpay, -⟩ := buffersWf_iff.mp hw
  have hafter : (requested sentFrame s).env = _ := requested_env hdly henv
  have hlast : (waited j (requested sentFrame s)).env = { turns := [{}, { arrive := b }], openEnded := false } := by
    simp [waited, envAfter, hafter]
  have hallowed : 0 + 10 * j ≤ s.tmo.toNat + 10 := by omega
  have hwaits := resume_waits (s := requested sentFrame s) (j := j) rfl ho rfl (silentFor_of_env hafter)
    (show s.rxq.length < flen s by simp [hq, flen_pos]) hallowed
  have htime : (waited j (requested sentFrame s)).elapsed.toNat = 0 + 10 * j :=
    toNat_elapsed_waited (s := requested sentFrame s) hallowed
  have hend := resume_reply_in_wait (s := waited j (requested sentFrame s)) rfl ho rfl hd hq hlast
    (htime.trans_le (show 0 + 10 * j ≤ s.tmo.toNat by omega)) hdec hda hreply
  have helapsed : (0 : BitVec 17) + BitVec.ofNat 17 (10 * j) + 10 = BitVec.ofNat 17 (10 * (j + 1)) := by
    rw [zero_add, Nat.mul_add, BitVec.ofNat_add]
    rfl
  refine ⟨_, (exec_lnkSync_requests hf hw ho (harmless_of_late_reply hd henv) ha (arrivedIn_send hdly henv)).trans
    (hwaits.trans hend), ?_, holds_writeAll hrxpay _, holds_received_requested hf hplen hw hl⟩
  simp only [respond, deliver, received, waited, requested, prepared, startSync, helapsed, hq, unpackFrame]

end Sys2Proof.Machine
end

section
/-!
SUPPORT. The system commands (43_system.md R130 to R132). The register table of 10_state.md R12 is `allRegs` with
`regNumber`. What `REG.RD` and `REG.WR` do with the number of a register is said once for all twenty (`exec_regRd`,
`exec_regWr`), and so is which numbers and values they refuse (`exec_regRd_refused`, `exec_regWr_refused`).
-/

namespace Sys2Proof.Machine

/-! ### `SYS.RESET` -/

/-- Settles O8: the word of `SYS.RESET`, and the state it leaves: `resetBlock`'s with a response on the port. -/
theorem sysResetPutsTheBlockInReset : Obligations.SysResetPutsTheBlockInReset :=
  ⟨decode_eq_ok_iff.mpr rfl, fun _ => rfl⟩

/-! ### The register table -/

theorem mem_allRegs (q : Reg) : q ∈ allRegs := by
  cases q <;> decide

/-- The registers that the host may write (43_system.md R132), in the order of `allRegs`. -/
def writableRegs : List Reg := allRegs.filter fun q => !regReadOnly q

theorem mem_writableRegs {q : Reg} : q ∈ writableRegs ↔ regReadOnly q = false := by
  simp [writableRegs, mem_allRegs]

/-- No two registers have the same number (10_state.md R10). -/
theorem regNumber_injective : Function.Injective regNumber := fun _ _ h =>
  Option.some.inj ((regOf_eq_some.mpr h).symm.trans (regOf_eq_some.mpr rfl))

/-- `STATUS` as a number: bit 0 `OPEN`, bit 1 `RXV` (10_state.md R19). -/
theorem toNat_statusWord (s : State) : (statusWord s).toNat = s.opened.toNat + 2 * s.rxv.toNat := by
  unfold statusWord
  cases s.opened <;> cases s.rxv <;> rfl

section
variable (s : State)

/-! ### `REG.RD` -/

theorem exec_regRd (q : Reg) : exec (.regRd (regNumber q)) s = .next (respond .ok (readReg q s) s) := by
  have hq : regOf (regNumber q) = some q := regOf_eq_some.mpr rfl
  simp only [exec, execRegRd, hq]

theorem exec_regRd_refused {num : Byte} (h : ∀ q, regNumber q ≠ num) :
    exec (.regRd num) s = .next (respond .illegalOperand 0 s) := by
  refine (illegalOperandExactlyWhenOutOfRange (.regRd num) s).1 ?_
  simp [WellFormed, regOf_eq_none.mpr h]

/-! ### `REG.WR` -/

theorem exec_regWr {q : Reg} {v : Half} (ho : regReadOnly q = false) (hv : regValueRefused q v = false) :
    exec (.regWr (regNumber q) v) s = .next (respond .ok 0 (writeReg q v s)) := by
  have hq : regOf (regNumber q) = some q := regOf_eq_some.mpr rfl
  simp [exec, execRegWr, hq, ho, hv]

/-- `REG.WR` is refused if no register of that number is writable and holds the value (43_system.md R132). -/
theorem exec_regWr_refused {num : Byte} {v : Half}
    (h : ∀ q, regNumber q = num → regReadOnly q = true ∨ regValueRefused q v = true) :
    exec (.regWr num v) s = .next (respond .illegalOperand 0 s) := by
  simp only [exec, execRegWr]
  split
  next => rfl
  next q hq =>
    obtain ho | hv := h q (regOf_eq_some.mp hq)
    · rw [if_pos ho, raise_eq]
    · rw [if_pos hv, raise_eq, ite_self]

end

/-! ### The statements on the registers -/

/-- Settles O10: the table of numbers and values is `regNumber` with `readReg`, register by register. -/
theorem regRdAnswersTheRegister : Obligations.RegRdAnswersTheRegister := by
  refine ⟨fun r => decode_eq_ok_iff.mpr (ofNat_eq_packWord_zero r 0x02), fun s => ⟨fun p hp => ?_, fun r hr => ?_⟩⟩
  · have htable : p ∈ allRegs.map fun q => (regNumber q, (readReg q s).toNat) := by
      simpa [allRegs, regNumber, readReg, toNat_statusWord, BitVec.toNat_setWidth_of_le, -BitVec.toNat_setWidth]
        using hp
    obtain ⟨q, -, rfl⟩ := List.mem_map.mp htable
    rw [BitVec.ofNat_toNat, BitVec.setWidth_eq]
    exact exec_regRd s q
  · have hnum : r ∉ allRegs.map regNumber := hr
    exact exec_regRd_refused s fun q hq => hnum (List.mem_map.mpr ⟨q, mem_allRegs q, hq⟩)

/-- Settles O11: each writable register by `exec_regWr`, where only `PLEN` has values that it refuses; every other
number is that of no writable register. -/
theorem regWrStoresTheReducedValue : Obligations.RegWrStoresTheReducedValue := by
  refine ⟨fun r v => decode_eq_ok_iff.mpr (ofNat_eq_packWord v r 0x03), fun s v => ?_⟩
  have stored (q : Reg) (ho : regReadOnly q = false) (hq : q ≠ .plen) :=
    exec_regWr s ho (regValueRefused_eq_false (v := v).mpr (.inl hq))
  simp only [BitVec.ofNat_toNat]
  refine ⟨stored .laddr rfl nofun, fun hv => ?_, fun hv => ?_, stored .seqcnt rfl nofun, stored .txdly rfl nofun,
    stored .tmo rfl nofun, stored .daddr rfl nofun, stored .crc rfl nofun, stored .txfc rfl nofun,
    stored .txseq rfl nofun, stored .txsa rfl nofun, stored .txda rfl nofun, stored .txlen rfl nofun,
    stored .fblen rfl nofun, fun r hr => ?_⟩
  · exact exec_regWr (q := .plen) s rfl (regValueRefused_eq_false.mpr (.inr hv))
  · refine exec_regWr_refused s fun q hq => .inr ?_
    obtain rfl : q = .plen := regNumber_injective hq
    exact Nat.blt_eq.mpr hv
  · have hnum : r ∉ writableRegs.map regNumber := hr
    refine exec_regWr_refused s fun q hq => .inl ?_
    rw [← Bool.not_eq_false, ← mem_writableRegs]
    exact fun hw => hnum (List.mem_map.mpr ⟨q, hw, hq⟩)

end Sys2Proof.Machine
end

section
/-!
SUPPORT. The responses (60_exceptions.md R140, R141). Three codes are listed for whole classes of commands (`OK` for
all, `LINK_IO` for the link commands, `ILLEGAL_OPERAND` for those with an operand out of range); every other code belongs
to the commands whose pseudocode raises it. A command in progress has no response until the pass that ends it gives one.
-/

namespace Sys2Proof.Machine

/-- A response that the table of R141 lists for the command, with `val` = 0 if its code is a failure (R72). -/
abbrev Listed (i : Instr) (r : Response) : Prop :=
  r.rc ∈ codesOf i ∧ (0x10 ≤ (rcByte r.rc).toNat → r.val = 0)

/-! ### Which codes are listed -/

section
variable {i : Instr}

theorem ok_mem_codesOf (i : Instr) : .ok ∈ codesOf i := by
  cases i <;> exact List.mem_cons_self

theorem linkIo_mem_codesOf (h : isLink i = true) : .linkIo ∈ codesOf i := by
  cases i with
  | lnkOpen | lnkClose | lnkSend | lnkPoll | lnkSync => decide
  | _ => cases h

/-- Only the commands that read a register number or a buffer index can be refused for it (30_encoding.md R75). -/
theorem illegalOperand_mem_codesOf (h : WellFormed i = false) : .illegalOperand ∈ codesOf i := by
  cases i with
  | regRd | regWr | txpWr | rxpRd | fbWr | fbRd => simp [codesOf]
  | _ => cases h

/-- `OK` is below the failure codes, so `val` is free (30_encoding.md R72). -/
theorem listed_ok (i : Instr) (v : Word) : Listed i ⟨.ok, v⟩ :=
  ⟨ok_mem_codesOf i, fun h => absurd h (show ¬ 0x10 ≤ (rcByte .ok).toNat by decide)⟩

theorem listed_of_val_zero {rc : ResultCode} (h : rc ∈ codesOf i) : Listed i ⟨rc, 0⟩ := ⟨h, fun _ => rfl⟩

theorem isLink_of_commandOf {c : Control} (h : commandOf c = some i) : isLink i = true := by
  unfold commandOf at h
  split at h <;> cases h <;> rfl

end

/-! ### Which responses are given -/

theorem Answers.listed {s u : State} {i : Instr} {r : Response} (h : Answers s i r u) : Listed i r := by
  cases h with
  | illegalOperand i hw => exact listed_of_val_zero (illegalOperand_mem_codesOf hw)
  | frmEncTooLong | frmDecLength | frmDecFcs | sendTooLong | syncTooLong => exact listed_of_val_zero (by decide)
  | _ => exact listed_ok _ _

section
variable {s t : State} {i : Instr}

/-- A pass leaves the response as it is, or ends the command with one that is listed for it. -/
theorem Pass.response_eq_or_listed {f : Option Nat} {u : State} (h : Pass f u t) (hi : commandOf u.ctl = some i) :
    t.response = u.response ∨ ∃ r, t.response = some r ∧ Listed i r := by
  have link_io : Listed i ⟨.linkIo, 0⟩ := listed_of_val_zero (linkIo_mem_codesOf (isLink_of_commandOf hi))
  cases h with
  | openFails | closeFails | writeFails | byteWriteFails | byteFlushFails | flushFails | availFails | readFails =>
    exact .inr ⟨_, rfl, link_io⟩
  | opens | closes | sent | delivers => exact .inr ⟨_, rfl, listed_ok _ _⟩
  | noFrame hc | timeout hc | dropsTimeout _ _ hc =>
    rw [hc] at hi
    cases hi
    exact .inr ⟨_, rfl, listed_of_val_zero (by decide)⟩
  | badFrame c _ _ hc =>
    rw [hc] at hi
    cases c <;> cases hi <;> exact .inr ⟨_, rfl, listed_of_val_zero (by decide)⟩
  | foreignFrame _ _ _ _ _ _ _ hv | dropsWaits _ _ _ _ _ _ hv => exact .inl (by simp [hv])
  | _ => exact .inl rfl

/-- The command in progress is `i`, until it has ended; what is on the port then is listed for it. -/
abbrev RunningListed (i : Instr) (s : State) : Prop := Running i s ∧ ∀ r, s.response = some r → Listed i r

theorem Pass.runningListed {f : Option Nat} {u : State} (h : Pass f u t) (hb : u.ctl ≠ .idle)
    (hu : RunningListed i u) : RunningListed i t := by
  obtain ⟨hi, hl⟩ := hu
  obtain ⟨hi, ht⟩ := hi.of_pass hb h
  refine ⟨ht, fun r hr => ?_⟩
  obtain heq | ⟨r', hr', hl'⟩ := h.response_eq_or_listed hi
  · exact hl r (heq ▸ hr)
  · cases hr'.symm.trans hr
    exact hl'

/-- A step of a command in progress, reset inputs included: those abandon it without a response (70_reset_and_hazards.md
R160). -/
theorem resume_response_listed {r : Response} (hi : commandOf s.ctl = some i) (hs : s.response = none)
    (h : resume s = .next t) (hr : t.response = some r) : Listed i r := by
  refine (carryOn_induct (P := RunningListed i) ?_ ⟨.inr hi, by simp [hs]⟩ h).2 r hr
  intro u v hu hc ha
  obtain ⟨-, ⟨-, rfl⟩ | ⟨-, hp⟩⟩ := advance_next ha
  · exact ⟨.inl rfl, fun _ hr => nomatch hr⟩
  · exact hp.runningListed (canAdvance_iff.mp hc).1 hu

end

/-- Settles O60: a command answers at once (`Answers.listed`), or a pass of it does (`Pass.response_eq_or_listed`), in
the step that takes the command or in a later one. -/
theorem onlyTheListedResultCodes : Obligations.OnlyTheListedResultCodes := by
  refine ⟨⟨rfl, rfl, rfl, rfl, rfl, rfl, rfl, rfl, rfl⟩, fun i s t r h hr => ?_, fun i s t r hi hs h hr => ?_⟩
  · obtain ⟨r', u, ha, rfl⟩ | ⟨c, u, hl, hres⟩ := exec_next h
    · cases hr
      exact ha.listed
    · exact resume_response_listed (s := accept c u) hl.commandOf_eq rfl hres hr
  · exact resume_response_listed hi hs (step_of_busy (ne_idle_of_commandOf hi) ▸ h) hr

end Sys2Proof.Machine
end

section
/-!
SUPPORT. The reset input (70_reset_and_hazards.md R160, R162). At an interleaving point of a command and in an idle step it
does the same: the environment moves bytes, and the block is reset (`withTurn_of_resetInput`).
-/

namespace Sys2Proof.Machine

/-- A turn in which the bytes fit and the reset input is asserted: what was to follow the turn is not reached. -/
theorem withTurn_of_resetInput {s : State} {k : Option Nat → State → Result}
    (hf : rxFits (nextTurn s).arrive s = true) (hr : (nextTurn s).resetInput = true) :
    withTurn s k = .next (resetBlock (turned s)) := by
  simp [withTurn, hf, hr]

/-- The first pass of a step is reset, and the block is then idle, so that the step makes no further pass. -/
theorem resume_of_resetInput {s : State} (hb : s.ctl ≠ .idle) (hheld : held s = false)
    (hf : rxFits (nextTurn s).arrive s = true) (hr : (nextTurn s).resetInput = true) :
    resume s = .next (resetBlock (turned s)) := by
  have first_pass : carryOn 1 s = .next (resetBlock (turned s)) :=
    carryOn_succ_next (canAdvance_iff.mpr ⟨hb, hheld⟩) (withTurn_of_resetInput hf hr)
  have budget : 1 ≤ passBudget s := by
    unfold passBudget
    omega
  exact carryOn_next_of_stopped first_pass rfl budget

theorem turned_env_of_cons {s : State} {e : EnvTurn} {es : List EnvTurn} (h : s.env.turns = e :: es) :
    (turned s).env = { s.env with turns := es } := by
  simp [dropTurn, h]

/-- Settles O9: a command in progress and an idle step each take the environment's turn, which resets the block or leaves
an idle block with its bytes moved. -/
theorem resetInputAbandonsTheCommand : Obligations.ResetInputAbandonsTheCommand := by
  refine ⟨fun s turn rest hb he hr hf => ?_, fun s hc hs hf => ⟨fun hr => ?_, fun hr => ?_⟩⟩
  · obtain rfl := nextTurn_of_cons he
    have hheld : held s = false := by simp [held, he]
    rw [step_of_busy hb, resume_of_resetInput hb hheld hf hr, ← turned_env_of_cons he]
    rfl
  · rw [step_of_no_word hc hs, ← turned_env]
    exact withTurn_of_resetInput hf hr
  · rw [step_of_no_word hc hs, ← turned_env]
    exact withTurn_of_ready hf hr

end Sys2Proof.Machine
end
